-- ==== Sys2Proof/Word.lean ====
section
/-! DEFINITION. Word types of FGRD (00_scope.md R13): `u8`, `u16`, and the splitting of a `u16` into bytes. -/

namespace Sys2Proof

/-- `u8` (R13). -/
abbrev Byte := BitVec 8

/-- `u16` (R13). -/
abbrev Word := BitVec 16

/-- "High byte" of a `u16`: `v[15:8]` (R13). -/
def hiByte (v : Word) : Byte := v.extractLsb' 8 8

/-- "Low byte" of a `u16`: `v[7:0]` (R13). -/
def loByte (v : Word) : Byte := v.extractLsb' 0 8

end Sys2Proof
end

