-- ==== Sys2Proof/Config.lean ====
section
/-! DEFINITION. The implementation parameters of one FGRD instance (00_scope.md R11) and the free values. -/

namespace Sys2Proof

/-- The parameters of R11 that the instance leaves OPEN (D10 to D13).
`P_T16_BIG_ENDIAN` is no field: the spec fixes it to true (`Config.t16BigEndian`). -/
structure Config where
  /-- `P_DEV_ADDR`, 7 bits: the one device address of every transport request (R73). -/
  devAddr : BitVec 7
  /-- `P_PIN`: the identifier of the one discrete input line (R62). -/
  pin : Nat
  /-- `P_TRUE_MEANS_BATTERY`: how a consumer reads the power-source flag (R12). -/
  trueMeansBattery : Bool
  /-- `SINK_V`: the voltage sink is present (R36). -/
  sinkV : Bool
  /-- `SINK_SOC`: the battery-percent sink is present (R36). -/
  sinkSoc : Bool
  /-- `SINK_PS`: the power-source sink is present (R36). -/
  sinkPs : Bool
  deriving DecidableEq, Repr, Inhabited

/-- The instance that `State.reset` is about.
No body: the spec leaves every one of its fields OPEN, so nothing about them can be proved.
Log entry 2. -/
opaque Config.board : Config

/-- `P_T16_BIG_ENDIAN = true` (R64, D9): the wire order of the combined 16-bit accesses, outside the block. -/
def Config.t16BigEndian : Bool := true

/-- FREE VALUE. What `BUF` holds between commands, which R29 leaves unspecified: one fresh value for
each end of a command.
No body.
Log entry 3. -/
opaque Config.freeBuf : Nat → Word

/-- FREE VALUE. The level of the discrete input line before the environment first changes it (R58: "any
boolean the environment chooses").
No body.
Log entry 4. -/
opaque Config.firstDinLevel : Bool

end Sys2Proof
end

