-- ==== Sys2Proof/Syntax.lean ====
section
/-! DEFINITION. The words that cross FGRD's ports: one constructor of `Instr` for each row of
spec/opcode_table.json (30_encoding.md R76 to R82; 10_state.md R40). -/

namespace Sys2Proof

/-- The five word formats; the port a word crosses fixes its format (R76; `CSRSEL` is the index on
`csr_sel`, R40). -/
inductive Format where
  /-- `CMD`: `cmd_op[1:0]`, host to block. -/
  | cmd
  /-- `CRSP`: `rsp_code[1:0]`, block to host. -/
  | crsp
  /-- `TREQ`: `t_req[27:0]`, block to transport. -/
  | treq
  /-- `TRSP`: `t_rsp[16:0]`, transport to block. -/
  | trsp
  /-- `CSRSEL`: `csr_sel[1:0]`, host to block. -/
  | csrSel
  deriving DecidableEq, Repr

/-- One word at one port. -/
inductive Instr where
  /-- `CMD 01` (R100). -/
  | setup
  /-- `CMD 10` (R120). -/
  | update
  /-- `CMD 11` (R145). -/
  | sleep
  /-- `CMD 00`, reserved (R85). -/
  | reservedCmd
  /-- `CRSP 00` (R82). -/
  | done
  /-- `CRSP 01` (R82). -/
  | illegalOp
  /-- `CRSP 10` (R82). -/
  | illegalState
  /-- `TREQ` kind `00`, raw byte write (R52, R78). -/
  | tWrite (len : BitVec 2) (addr : Byte) (wdata : Word)
  /-- `TREQ` kind `01`, raw byte read (R53, R78). -/
  | tRead (len : BitVec 2) (addr : Byte) (wdata : Word)
  /-- `TREQ` kind `10`, combined register read (R54, R78). -/
  | tRead16 (len : BitVec 2) (addr : Byte) (wdata : Word)
  /-- `TREQ` kind `11`, combined register write (R55, R78). -/
  | tWrite16 (len : BitVec 2) (addr : Byte) (wdata : Word)
  /-- `BusWrite([0x0C])` (R81, R101). -/
  | qSelConfig
  /-- `BusRead(2)` (R81, R102). -/
  | qRd2
  /-- `MemWrite(0x0C, 2, 0x971C)` (R81, R105). -/
  | qWbConfig
  /-- `MemRead(0x02, 2)` (R81, R122). -/
  | qRdVcell
  /-- `MemRead(0x04, 2)` (R81, R125). -/
  | qRdSoc
  /-- `MemWrite(0x0C, 2, 0x979C)` (R81, R147). -/
  | qSleep
  /-- `TRSP` with `ok = 1` (R80). -/
  | tOk (rdata : Word)
  /-- `TRSP` with `ok = 0` (R80). -/
  | tErr (rdata : Word)
  /-- `csr_sel = 0` (R41). -/
  | csrDevaddr
  /-- `csr_sel = 1` (R42). -/
  | csrState
  /-- `csr_sel = 2` (R43). -/
  | csrStatus
  /-- `csr_sel = 3` (R44). -/
  | csrSinks
  deriving DecidableEq, Repr

/-- The port an instruction's word crosses. -/
def Instr.format : Instr → Format
  | .setup => .cmd
  | .update => .cmd
  | .sleep => .cmd
  | .reservedCmd => .cmd
  | .done => .crsp
  | .illegalOp => .crsp
  | .illegalState => .crsp
  | .tWrite _ _ _ => .treq
  | .tRead _ _ _ => .treq
  | .tRead16 _ _ _ => .treq
  | .tWrite16 _ _ _ => .treq
  | .qSelConfig => .treq
  | .qRd2 => .treq
  | .qWbConfig => .treq
  | .qRdVcell => .treq
  | .qRdSoc => .treq
  | .qSleep => .treq
  | .tOk _ => .trsp
  | .tErr _ => .trsp
  | .csrDevaddr => .csrSel
  | .csrState => .csrSel
  | .csrStatus => .csrSel
  | .csrSinks => .csrSel

end Sys2Proof
end

