-- ==== Sys2Proof/WellFormed.lean ====
section
/-! DEFINITION. The field rules of 30_encoding.md R78 as checks on an instruction. -/

namespace Sys2Proof

/-- `len` of a raw access is "1 or 2" (R78). -/
def rawLenOk (len : BitVec 2) : Bool := len == 1#2 || len == 2#2

/-- A `WRITE`: `len` 1 or 2, `addr` zero, "bytes beyond `len` are `0x00`" (R78). -/
def writeFieldsOk (len : BitVec 2) (addr : Byte) (wdata : Word) : Bool :=
  rawLenOk len && addr == 0#8 && (len == 2#2 || loByte wdata == 0#8)

/-- A `READ`: `len` 1 or 2, `addr` zero, `wdata` zero (R78). -/
def readFieldsOk (len : BitVec 2) (addr : Byte) (wdata : Word) : Bool :=
  rawLenOk len && addr == 0#8 && wdata == 0#16

/-- A `READ16`: `len` and `wdata` zero (R78). -/
def read16FieldsOk (len : BitVec 2) (wdata : Word) : Bool := len == 0#2 && wdata == 0#16

/-- A `WRITE16`: `len` zero (R78). -/
def write16FieldsOk (len : BitVec 2) : Bool := len == 0#2

/-- A well-formed instruction: a generic request keeps R78's field rules and is not one of the six
words of R81, which have constructors of their own. -/
def WellFormed : Instr → Bool
  | .setup => true
  | .update => true
  | .sleep => true
  | .reservedCmd => true
  | .done => true
  | .illegalOp => true
  | .illegalState => true
  | .tWrite len addr wdata => writeFieldsOk len addr wdata && !(len == 1#2 && wdata == 0x0C00#16)
  | .tRead len addr wdata => readFieldsOk len addr wdata && !(len == 2#2)
  | .tRead16 len addr wdata => read16FieldsOk len wdata && !(addr == 0x02#8 || addr == 0x04#8)
  | .tWrite16 len addr wdata =>
      write16FieldsOk len && !(addr == 0x0C#8 && (wdata == 0x971C#16 || wdata == 0x979C#16))
  | .qSelConfig => true
  | .qRd2 => true
  | .qWbConfig => true
  | .qRdVcell => true
  | .qRdSoc => true
  | .qSleep => true
  | .tOk _ => true
  | .tErr _ => true
  | .csrDevaddr => true
  | .csrState => true
  | .csrStatus => true
  | .csrSinks => true

end Sys2Proof
end

