-- ==== Sys2Proof/Decode.lean ====
section
/-! DEFINITION. Decoding of port words, total on every number, and the encoder (30_encoding.md R76 to
R82, R85; 10_state.md R40). -/

namespace Sys2Proof

/-- The length of a format's words in bits (R76; R75 for `csr_sel`). -/
def Format.width : Format → Nat
  | .cmd => 2
  | .crsp => 2
  | .treq => 28
  | .trsp => 17
  | .csrSel => 2

/-- Why the decoder refuses a word. -/
inductive Reject where
  /-- A bit above the port's width is set (R86: every word's length is fixed by its port). -/
  | tooWide
  /-- `rsp_code = 11`, "never produced" (R82, R85). -/
  | reservedCompletionCode
  deriving DecidableEq, Repr

/-- What the decoder answers. -/
inductive Decoded where
  | ok (i : Instr)
  | reject (r : Reject)
  deriving DecidableEq, Repr

/-! The six constant request words (R81). -/

/-- `Q_SEL_CONFIG` (R81). -/
def qSelConfigWord : BitVec 28 := 0x1000C00#28
/-- `Q_RD2` (R81). -/
def qRd2Word : BitVec 28 := 0x6000000#28
/-- `Q_WB_CONFIG` (R81). -/
def qWbConfigWord : BitVec 28 := 0xC0C971C#28
/-- `Q_RD_VCELL` (R81). -/
def qRdVcellWord : BitVec 28 := 0x8020000#28
/-- `Q_RD_SOC` (R81). -/
def qRdSocWord : BitVec 28 := 0x8040000#28
/-- `Q_SLEEP` (R81; 90_conflicts.md C4). -/
def qSleepWord : BitVec 28 := 0xC0C979C#28

/-- `TREQ` field `kind`, bits 27:26 (R78). -/
def treqKind (w : BitVec 28) : BitVec 2 := w.extractLsb' 26 2
/-- `TREQ` field `len`, bits 25:24 (R78). -/
def treqLen (w : BitVec 28) : BitVec 2 := w.extractLsb' 24 2
/-- `TREQ` field `addr`, bits 23:16 (R78). -/
def treqAddr (w : BitVec 28) : Byte := w.extractLsb' 16 8
/-- `TREQ` field `wdata`, bits 15:0 (R78). -/
def treqWdata (w : BitVec 28) : Word := w.extractLsb' 0 16

/-- `CMD` words (R77). -/
def decodeCmd (w : BitVec 2) : Instr :=
  if w = 1#2 then .setup
  else if w = 2#2 then .update
  else if w = 3#2 then .sleep
  else .reservedCmd

/-- `CRSP` words (R82). -/
def decodeCrsp (w : BitVec 2) : Decoded :=
  if w = 0#2 then .ok .done
  else if w = 1#2 then .ok .illegalOp
  else if w = 2#2 then .ok .illegalState
  else .reject .reservedCompletionCode

/-- A request that is none of the six words, by its kind (R78). -/
def decodeGenericTreq (w : BitVec 28) : Instr :=
  if treqKind w = 0#2 then .tWrite (treqLen w) (treqAddr w) (treqWdata w)
  else if treqKind w = 1#2 then .tRead (treqLen w) (treqAddr w) (treqWdata w)
  else if treqKind w = 2#2 then .tRead16 (treqLen w) (treqAddr w) (treqWdata w)
  else .tWrite16 (treqLen w) (treqAddr w) (treqWdata w)

/-- `TREQ` words: the six constants first, which also match their generic kinds (R81). -/
def decodeTreq (w : BitVec 28) : Instr :=
  if w = qSelConfigWord then .qSelConfig
  else if w = qRd2Word then .qRd2
  else if w = qWbConfigWord then .qWbConfig
  else if w = qRdVcellWord then .qRdVcell
  else if w = qRdSocWord then .qRdSoc
  else if w = qSleepWord then .qSleep
  else decodeGenericTreq w

/-- `TRSP` words: bit 16 is `ok`, bits 15:0 are `rdata`; "every 17-bit word is a legal answer" (R80, R85). -/
def decodeTrsp (w : BitVec 17) : Instr :=
  if w.extractLsb' 16 1 = 1#1 then .tOk (w.extractLsb' 0 16) else .tErr (w.extractLsb' 0 16)

/-- `csr_sel` words (R40 to R44). -/
def decodeCsrSel (w : BitVec 2) : Instr :=
  if w = 0#2 then .csrDevaddr
  else if w = 1#2 then .csrState
  else if w = 2#2 then .csrStatus
  else .csrSinks

/-- A word known to fit its port. -/
def decodeFitting : Format → Nat → Decoded
  | .cmd, w => .ok (decodeCmd (BitVec.ofNat 2 w))
  | .crsp, w => decodeCrsp (BitVec.ofNat 2 w)
  | .treq, w => .ok (decodeTreq (BitVec.ofNat 28 w))
  | .trsp, w => .ok (decodeTrsp (BitVec.ofNat 17 w))
  | .csrSel, w => .ok (decodeCsrSel (BitVec.ofNat 2 w))

/-- THE DECODER: the instruction the number `w` is at a port of format `f`, or a named rejection. -/
def decode (f : Format) (w : Nat) : Decoded :=
  if w < 2 ^ f.width then decodeFitting f w else .reject .tooWide

/-- `TREQ` as the concatenation of its fields (R78, R81: `kind<<26 | len<<24 | addr<<16 | wdata`). -/
def treqWord (kind len : BitVec 2) (addr : Byte) (wdata : Word) : BitVec 28 :=
  kind ++ len ++ addr ++ wdata

/-- `TRSP` as the concatenation of its fields (R80). -/
def trspWord (ok : BitVec 1) (rdata : Word) : BitVec 17 := ok ++ rdata

/-- THE ENCODER: an instruction's word as a number, bit 0 least significant. -/
def encode : Instr → Nat
  | .setup => 0b01
  | .update => 0b10
  | .sleep => 0b11
  | .reservedCmd => 0b00
  | .done => 0b00
  | .illegalOp => 0b01
  | .illegalState => 0b10
  | .tWrite len addr wdata => (treqWord 0b00#2 len addr wdata).toNat
  | .tRead len addr wdata => (treqWord 0b01#2 len addr wdata).toNat
  | .tRead16 len addr wdata => (treqWord 0b10#2 len addr wdata).toNat
  | .tWrite16 len addr wdata => (treqWord 0b11#2 len addr wdata).toNat
  | .qSelConfig => (treqWord 0b00#2 0b01#2 0x00#8 0x0C00#16).toNat
  | .qRd2 => (treqWord 0b01#2 0b10#2 0x00#8 0x0000#16).toNat
  | .qWbConfig => (treqWord 0b11#2 0b00#2 0x0C#8 0x971C#16).toNat
  | .qRdVcell => (treqWord 0b10#2 0b00#2 0x02#8 0x0000#16).toNat
  | .qRdSoc => (treqWord 0b10#2 0b00#2 0x04#8 0x0000#16).toNat
  | .qSleep => (treqWord 0b11#2 0b00#2 0x0C#8 0x979C#16).toNat
  | .tOk rdata => (trspWord 1#1 rdata).toNat
  | .tErr rdata => (trspWord 0#1 rdata).toNat
  | .csrDevaddr => 0b00
  | .csrState => 0b01
  | .csrStatus => 0b10
  | .csrSinks => 0b11

/-- The instruction of a decoding, if it is one. -/
def Decoded.instr? : Decoded → Option Instr
  | .ok i => some i
  | .reject _ => none

/-- The format a table row's length in whole bytes stands for: 28-bit words give 32, 17-bit words 24,
2-bit words 8.
DESIGN CHOICE: three formats have 2-bit words and no bit tells them apart (their ports do), so
8 bits are read as a command.
Log entry 5. -/
def tableFormat (nbits : Nat) : Format :=
  if nbits ≤ 8 then .cmd else if nbits ≤ 24 then .trsp else .treq

/-- The instruction the decoder reads from a table row's bits. -/
def decodeTableWord (nbits w : Nat) : Option Instr := (decode (tableFormat nbits) w).instr?

end Sys2Proof
end

