-- ==== Sys2Proof/Machine/State.lean ====
section
/-! DEFINITION. The state of one FGRD instance (10_state.md), its ports (30_encoding.md R75, R83), its
environment as plain data (20_memory.md), the trace (R60), and the reasons a step can stop. -/

namespace Sys2Proof.Machine

/-- `LC`, the lifecycle (R21). -/
inductive Lifecycle where
  | uninit
  | validating
  | ready
  | failed
  deriving DecidableEq, Repr

/-- `ST_KIND` (R25); code 3 "is never produced" and has no constructor (U14). -/
inductive StKind where
  | ok
  | warning
  | error
  deriving DecidableEq, Repr

/-- `ST_MSG` (R26); codes 6 and 7 are never produced and have no constructor (U14). -/
inductive StMsg where
  | none
  | unrecognised
  | sleepResetFailed
  | vcell
  | soc
  | sleepWrite
  deriving DecidableEq, Repr

/-- `SEQ`, the sequencer position, the block's program counter (R30). -/
inductive SeqPos where
  | idle
  | setupSel
  | setupRd
  | setupWb
  | updV
  | updSoc
  | updPs
  | slpWr
  deriving DecidableEq, Repr

/-- A numeric output holding register: `VOLT_OUT`, `SOC_OUT` (R31, R32). -/
structure NumHold where
  valid : Bool
  /-- An IEEE 754 binary32 word (R89). -/
  value : BitVec 32
  deriving DecidableEq, Repr

/-- The power-source holding register `PSRC_OUT` (R33). -/
structure LevelHold where
  valid : Bool
  value : Bool
  deriving DecidableEq, Repr

/-- `TREQ.kind` (R78). -/
inductive ReqKind where
  | write
  | read
  | read16
  | write16
  deriving DecidableEq, Repr

/-- A transport request by its `TREQ` fields (R78). -/
structure Request where
  kind : ReqKind
  len : BitVec 2
  addr : Byte
  wdata : Word
  deriving DecidableEq, Repr

/-- The document's primitives a request stands for (00_scope.md R16). -/
inductive Primitive where
  | busWrite (bytes : List Byte)
  | busRead (n : Nat)
  | memRead (addr : Byte)
  | memWrite (addr : Byte) (v : Word)
  deriving DecidableEq, Repr

/-- What an answer carries to the block (R52 to R55; an `Err` carries nothing, R17). -/
inductive Answer where
  | ok
  | okBytes (bytes : List Byte)
  | okWord (v : Word)
  | err
  deriving DecidableEq, Repr

/-- The commands (R50). -/
inductive CmdOp where
  | setup
  | update
  | sleep
  deriving DecidableEq, Repr

/-- The completion codes (R82). -/
inductive Completion where
  | done
  | illegalOp
  | illegalState
  deriving DecidableEq, Repr

/-- What a publish hands to which sink (R59). -/
inductive Publication where
  | v (word : BitVec 32)
  | soc (word : BitVec 32)
  | ps (level : Bool)
  deriving DecidableEq, Repr

/-- The events of the trace (R60).
A request's event also names the device address that travels beside it (R73). -/
inductive Event where
  | cmd (op : CmdOp)
  | tReq (dev : BitVec 7) (r : Request)
  | tRsp (a : Answer)
  | pinCfg
  | din (b : Bool)
  | pub (p : Publication)
  | status (kind : StKind) (msg : StMsg)
  | done (code : Completion)
  deriving DecidableEq, Repr

/-- What the environment does next at the block's input ports (R75). -/
inductive PortInput where
  /-- The host presents `cmd_op` (R83). -/
  | cmd (w : BitVec 2)
  /-- The host selects an introspection register (R40). -/
  | csr (w : BitVec 2)
  /-- The transport answers: one `t_rsp` word with `t_rsp_valid = 1` (R83). -/
  | answer (w : BitVec 17)
  /-- The transport drives `t_req_ready` (R83). -/
  | ready (b : Bool)
  /-- The level of the discrete input line becomes `b` (R58). -/
  | din (b : Bool)
  /-- `rst` is asserted for one instant (R185). -/
  | rst
  deriving DecidableEq, Repr

/-- Why a step has no next state. -/
inductive Fault where
  /-- Raised by `step` when a request is outstanding and the environment supplies nothing more: the
  transport never answers, the block is stuck (20_memory.md R74, U8: "the block has no step").
  Safe: the hardware too takes no step. -/
  | answerMissing
  /-- Raised by `step` when a request is offered, `t_req_ready` is 0 and the environment supplies
  nothing more: the transport never takes the request (R83 bounds no wait; R74).
  Safe: the hardware too takes no step. -/
  | requestNotTaken
  deriving DecidableEq, Repr

/-- Why a word has no meaning. -/
inductive Refusal where
  /-- Raised by `exec` for an instruction whose meaning is not written: by none of this model.
  Safe. -/
  | notModelled (mnemonic : String)
  /-- Raised by `step` when the word at a port is one the decoder rejects: only `rsp_code = 11`, which
  "is never produced" (R82, R85).
  Safe: no run from reset reaches it. -/
  | reservedWord
  deriving DecidableEq, Repr

/-- The whole state: the block's registers (R20), its ports' registers (R83), the input lines and what
the environment does next, the parameters (R11), and the model's own two fields. -/
structure State where
  /-- `LC` (R21). -/
  lc : Lifecycle
  /-- `ASLEEP` (R23). -/
  asleep : Bool
  /-- `PIN_CFG` (R24); it drives the output `din_cfg_input` (R57). -/
  pinCfg : Bool
  /-- `ST_KIND` (R25). -/
  stKind : StKind
  /-- `ST_MSG` (R26). -/
  stMsg : StMsg
  /-- `VOLT_OUT` (R31); its value drives `v_pub_data` (R59). -/
  voltOut : NumHold
  /-- `SOC_OUT` (R32); its value drives `soc_pub_data` (R59). -/
  socOut : NumHold
  /-- `PSRC_OUT` (R33); its value drives `ps_pub_data` (R59). -/
  psrcOut : LevelHold
  /-- `SEQ`, hidden (R30). -/
  seq : SeqPos
  /-- `BUF`, hidden (R29). -/
  buf : Word
  /-- `t_req_valid` and `t_req`: the request word the block offers and holds until taken (R83). -/
  tReq : Option (BitVec 28)
  /-- The single outstanding request (R38, R83). -/
  outstanding : Option Request
  /-- `rsp_valid` and `rsp_code`: the completion pulse on its way to the host (R82, R170). -/
  rsp : Option (BitVec 2)
  /-- `v_pub_valid`: the strobe of the latest step (R59). -/
  vStrobe : Bool
  /-- `soc_pub_valid` (R59). -/
  socStrobe : Bool
  /-- `ps_pub_valid` (R59). -/
  psStrobe : Bool
  /-- The parameters of the instance (R11, R36): input ports `sink_v`, `sink_soc`, `sink_ps`, output
  `t_dev_addr`. -/
  cfg : Config
  /-- The commands the host has presented and the block has not taken, in order: the first drives
  `cmd_op`, and `cmd_valid` is 1 when there is one (R51, R83). -/
  hostCmds : List (BitVec 2)
  /-- `csr_sel` (R40). -/
  csrSel : BitVec 2
  /-- `t_req_ready` (R83). -/
  tReady : Bool
  /-- `din_level` (R58). -/
  dinLevel : Bool
  /-- What the environment does next at the input ports, first first (R18, R56). -/
  inputs : List PortInput
  /-- THE MODEL'S OWN: how many free values have been drawn (log entry 3). -/
  freeCount : Nat
  /-- THE MODEL'S OWN RECORD: the trace of R60, oldest first; no rule of the block reads it. -/
  trace : List Event
  deriving DecidableEq, Repr

/-- The machine right after reset (R47, R185): no command waits, no request is offered or outstanding,
and the environment has nothing scheduled.
DESIGN CHOICE: the values of `BUF` and of the three holding registers, which R47 leaves unspecified
(log entry 1), and the input lines (log entry 4). -/
def State.reset : State where
  lc := .uninit
  asleep := false
  pinCfg := false
  stKind := .ok
  stMsg := .none
  voltOut := ⟨false, 0#32⟩
  socOut := ⟨false, 0#32⟩
  psrcOut := ⟨false, false⟩
  seq := .idle
  buf := 0#16
  tReq := none
  outstanding := none
  rsp := none
  vStrobe := false
  socStrobe := false
  psStrobe := false
  cfg := Config.board
  hostCmds := []
  csrSel := 0#2
  tReady := true
  dinLevel := Config.firstDinLevel
  inputs := []
  freeCount := 0
  trace := []

end Sys2Proof.Machine
end

