-- ==== Sys2Proof/Machine/Operands.lean ====
section
/-! DEFINITION. Constants, numeric codes, operand assembly, the pure decode functions, the request and
answer forms, and the introspection words. -/

namespace Sys2Proof.Machine

/-! Constants (00_scope.md R8). -/

/-- `VCELL_ADDR` (R8). -/
def vcellAddr : Byte := 0x02#8
/-- `SOC_ADDR` (R8). -/
def socAddr : Byte := 0x04#8
/-- `CONFIG_ADDR` (R8). -/
def configAddr : Byte := 0x0C#8
/-- `CONFIG_DEFAULT` (R8). -/
def configDefault : Word := 0x971C#16
/-- `SAFE_MASK` (R8, R10). -/
def safeMask : Word := 0xFF1F#16
/-- `SLEEP_BIT` (R8). -/
def sleepBit : Word := 0x0080#16
/-- `SLEEP_VALUE = CONFIG_DEFAULT OR SLEEP_BIT` (R9; 90_conflicts.md C4). -/
def sleepValue : Word := configDefault ||| sleepBit

/-! Numeric codes. -/

/-- `LC` (R21). -/
def Lifecycle.code : Lifecycle → BitVec 2
  | .uninit => 0#2
  | .validating => 1#2
  | .ready => 2#2
  | .failed => 3#2

/-- `ST_KIND` (R25). -/
def StKind.code : StKind → BitVec 2
  | .ok => 0#2
  | .warning => 1#2
  | .error => 2#2

/-- `ST_MSG` (R26). -/
def StMsg.code : StMsg → BitVec 3
  | .none => 0#3
  | .unrecognised => 1#3
  | .sleepResetFailed => 2#3
  | .vcell => 3#3
  | .soc => 4#3
  | .sleepWrite => 5#3

/-- The text the document gives for a message (R26); the block carries the code only (R177). -/
def StMsg.text : StMsg → Option String
  | .none => .none
  | .unrecognised => some "unrecognised"
  | .sleepResetFailed => some "sleep reset failed"
  | .vcell => some "Unable to read VCELL"
  | .soc => some "Unable to read SOC"
  | .sleepWrite => .none

/-- `SEQ` (R30). -/
def SeqPos.code : SeqPos → BitVec 3
  | .idle => 0#3
  | .setupSel => 1#3
  | .setupRd => 2#3
  | .setupWb => 3#3
  | .updV => 4#3
  | .updSoc => 5#3
  | .updPs => 6#3
  | .slpWr => 7#3

/-- `rsp_code` (R82). -/
def Completion.code : Completion → BitVec 2
  | .done => 0b00#2
  | .illegalOp => 0b01#2
  | .illegalState => 0b10#2

/-- `cmd_op` (R77). -/
def CmdOp.code : CmdOp → BitVec 2
  | .setup => 0b01#2
  | .update => 0b10#2
  | .sleep => 0b11#2

/-- `TREQ.kind` (R78). -/
def ReqKind.code : ReqKind → BitVec 2
  | .write => 0b00#2
  | .read => 0b01#2
  | .read16 => 0b10#2
  | .write16 => 0b11#2

/-! Predicates of the state that the spec names. -/

/-- `FAILED := (LC == FAILED)` (R22). -/
def State.isFailed (s : State) : Bool := s.lc == .failed

/-- The busy condition `SEQ != IDLE` (R30, R51). -/
def State.busy (s : State) : Bool := s.seq != .idle

/-- `cmd_ready = (SEQ == IDLE)` (R75). -/
def State.cmdReady (s : State) : Bool := s.seq == .idle

/-! Identity (40_setup.md). -/

/-- The big-endian value of two bytes, the first received in bits 15:8 (R63). -/
def beWord (b0 b1 : Byte) : Word := b0 ++ b1

/-- Step 3: the masked configuration value (R103). -/
def maskedConfig (c : Word) : Word := c &&& safeMask

/-- `IDMATCH` (R109). -/
def idMatch (c : Word) : Bool := maskedConfig c == configDefault

/-! The linear decodes (41_update.md), as exact rationals (R15). -/

/-- An exact non-negative rational `num / den`: every result of this spec is one (R15). -/
structure ExactQ where
  num : Nat
  den : Nat
  deriving DecidableEq, Repr

/-- `raw >> 4`, a logical shift (R84, R135). -/
def voltField (raw : Word) : Word := raw >>> 4

/-- `VDEC`: `(5/4) × (raw >> 4) / 1000` volts (R123). -/
def vdec (raw : Word) : ExactQ := ⟨5 * (voltField raw).toNat, 4 * 1000⟩

/-- `SOCDEC`: `hi + 0.003906 × lo` percent (R126). -/
def socdec (raw : Word) : ExactQ :=
  ⟨1000000 * (hiByte raw).toNat + 3906 * (loByte raw).toNat, 1000000⟩

/-- `a / b` rounded to the nearest integer, a tie to the even one. -/
def roundDiv (a b : Nat) : Nat :=
  if 2 * (a % b) < b ∨ (2 * (a % b) = b ∧ a / b % 2 = 0) then a / b else a / b + 1

/-- `rne32`: the binary32 word nearest the rational, ties to even (R15, R89), computed in units of
`2^-149`: the significand has 24 bits, so it counts units of `2^(log2 - 23)` of those.
PRESUMED (the spec's G3): binary32 is IEEE 754's.
Log entry 6. -/
def rne32 (q : ExactQ) : BitVec 32 :=
  let x := q.num * 2 ^ 149
  let e := max (Nat.log2 (x / q.den)) 23 - 23
  BitVec.ofNat 32 (e * 2 ^ 23 + roundDiv x (q.den * 2 ^ e))

/-- The word a voltage reading publishes (R124). -/
def voltWord (raw : Word) : BitVec 32 := rne32 (vdec raw)

/-- The word a state-of-charge reading publishes (R127). -/
def socWord (raw : Word) : BitVec 32 := rne32 (socdec raw)

/-! Requests and answers (20_memory.md, 30_encoding.md R78, R80). -/

/-- The raw bytes of a request or of a raw read: byte 0 in bits 15:8, byte 1 in bits 7:0 (R78, R80). -/
def rawBytes (len : BitVec 2) (w : Word) : List Byte := [hiByte w, loByte w].take len.toNat

/-- The primitive a request stands for, where its fields keep R78's rules (R52 to R55). -/
def Request.primitive (r : Request) : Option Primitive :=
  match r.kind with
  | .write =>
    if writeFieldsOk r.len r.addr r.wdata then some (.busWrite (rawBytes r.len r.wdata)) else none
  | .read => if readFieldsOk r.len r.addr r.wdata then some (.busRead r.len.toNat) else none
  | .read16 => if read16FieldsOk r.len r.wdata then some (.memRead r.addr) else none
  | .write16 => if write16FieldsOk r.len then some (.memWrite r.addr r.wdata) else none

/-- A request's word (R78). -/
def Request.word (r : Request) : BitVec 28 := treqWord r.kind.code r.len r.addr r.wdata

/-- What an `ok` answer with these data carries, by the kind of the request (R52 to R55, R80). -/
def Request.okAnswer (r : Request) (rdata : Word) : Answer :=
  match r.kind with
  | .write => .ok
  | .write16 => .ok
  | .read => .okBytes (rawBytes r.len rdata)
  | .read16 => .okWord rdata

/-- The six requests of R81 by their fields. -/
def reqSelConfig : Request := ⟨.write, 1#2, 0x00#8, configAddr ++ 0x00#8⟩
/-- `BusRead(2)` (R81). -/
def reqRd2 : Request := ⟨.read, 2#2, 0x00#8, 0x0000#16⟩
/-- `MemWrite(0x0C, 2, 0x971C)` (R81). -/
def reqWbConfig : Request := ⟨.write16, 0#2, configAddr, configDefault⟩
/-- `MemRead(0x02, 2)` (R81). -/
def reqRdVcell : Request := ⟨.read16, 0#2, vcellAddr, 0x0000#16⟩
/-- `MemRead(0x04, 2)` (R81). -/
def reqRdSoc : Request := ⟨.read16, 0#2, socAddr, 0x0000#16⟩
/-- `MemWrite(0x0C, 2, 0x979C)` (R81). -/
def reqSleep : Request := ⟨.write16, 0#2, configAddr, sleepValue⟩

/-- The two bytes a combined 16-bit access puts on the wire, first first, for a model that composes the
block with a byte-level bus (R64); no rule of the block uses it. -/
def wireBytes16 (v : Word) : List Byte :=
  if Config.t16BigEndian then [hiByte v, loByte v] else [loByte v, hiByte v]

/-! Output ports that are views of the state (R59, R57, R75). -/

/-- The value a holding register holds, if it holds one (R31, R32). -/
def NumHold.read (h : NumHold) : Option (BitVec 32) := if h.valid then some h.value else none

/-- The level `PSRC_OUT` holds, if it holds one (R33). -/
def LevelHold.read (h : LevelHold) : Option Bool := if h.valid then some h.value else none

/-- `v_pub_data` (R59). -/
def State.vPubData (s : State) : BitVec 32 := s.voltOut.value

/-- `soc_pub_data` (R59). -/
def State.socPubData (s : State) : BitVec 32 := s.socOut.value

/-- `ps_pub_data` (R59). -/
def State.psPubData (s : State) : Bool := s.psrcOut.value

/-- `din_cfg_input = PIN_CFG` (R57). -/
def State.dinCfgInput (s : State) : Bool := s.pinCfg

/-- `t_dev_addr` (R73). -/
def State.tDevAddr (s : State) : BitVec 7 := s.cfg.devAddr

/-- Whether the system runs on battery, as a consumer reads the published level (R12): the level under
the polarity parameter, if one was published. -/
def State.onBattery (s : State) : Option Bool :=
  s.psrcOut.read.map fun b => b == s.cfg.trueMeansBattery

/-! Introspection registers (10_state.md section 7). -/

/-- One bit. -/
def bit (b : Bool) : BitVec 1 := BitVec.ofBool b

/-- CSR 0 `DEVADDR` (R41). -/
def csrDevaddrWord (s : State) : Word := 0#9 ++ s.cfg.devAddr

/-- CSR 1 `STATE` (R42). -/
def csrStateWord (s : State) : Word :=
  0#10 ++ bit s.busy ++ bit s.pinCfg ++ bit s.asleep ++ bit s.isFailed ++ s.lc.code

/-- CSR 2 `STATUS` (R43). -/
def csrStatusWord (s : State) : Word := 0#11 ++ s.stMsg.code ++ s.stKind.code

/-- CSR 3 `SINKS` (R44). -/
def csrSinksWord (s : State) : Word :=
  0#9 ++ bit (s.psrcOut.valid && s.psrcOut.value) ++ bit s.psrcOut.valid ++ bit s.socOut.valid ++
    bit s.voltOut.valid ++ bit s.cfg.sinkPs ++ bit s.cfg.sinkSoc ++ bit s.cfg.sinkV

/-- `csr_rdata`, combinational on the present state and `csr_sel` (R40). -/
def State.csrRdata (s : State) : Word :=
  if s.csrSel = 0#2 then csrDevaddrWord s
  else if s.csrSel = 1#2 then csrStateWord s
  else if s.csrSel = 2#2 then csrStatusWord s
  else csrSinksWord s

end Sys2Proof.Machine
end

