-- ==== Sys2Proof/Machine/Flags.lean ====
section
/-! DEFINITION. The status pair and its writers (10_state.md R25 to R27; 60_exceptions.md R156 to R163). -/

namespace Sys2Proof.Machine

/-- Append an event to the trace (R60). -/
def record (e : Event) (s : State) : State := { s with trace := s.trace ++ [e] }

/-- Write the status pair, both parts together (R26), and record it (R60 `Status`). -/
def writeStatus (k : StKind) (m : StMsg) (s : State) : State :=
  record (.status k m) { s with stKind := k, stMsg := m }

/-- `ClearWarning()` (R163). -/
def clearWarning (s : State) : State :=
  if s.stKind = .warning then writeStatus .ok .none s else s

/-- The fatal causes (R159, R160). -/
inductive FatalCause where
  | xportSelect
  | xportRead
  | unrecognised
  | sleepResetFailed
  deriving DecidableEq, Repr

/-- The recoverable causes (R159, R161). -/
inductive WarnCause where
  | vcell
  | soc
  | sleepWrite
  deriving DecidableEq, Repr

/-- The protocol causes (R158, R159). -/
inductive ProtocolCause where
  | illegalOp
  | illegalState
  deriving DecidableEq, Repr

/-- Every abnormal outcome is one of three kinds (R155). -/
inductive Cause where
  | fatal (c : FatalCause)
  | warn (c : WarnCause)
  | protocol (c : ProtocolCause)
  deriving DecidableEq, Repr

/-- The status kind a fatal cause records (R159). -/
def FatalCause.kind : FatalCause → StKind
  | .xportSelect => .warning
  | .xportRead => .warning
  | .unrecognised => .error
  | .sleepResetFailed => .error

/-- The message a fatal cause records (R159). -/
def FatalCause.msg : FatalCause → StMsg
  | .xportSelect => .none
  | .xportRead => .none
  | .unrecognised => .unrecognised
  | .sleepResetFailed => .sleepResetFailed

/-- The message a recoverable cause records (R159). -/
def WarnCause.msg : WarnCause → StMsg
  | .vcell => .vcell
  | .soc => .soc
  | .sleepWrite => .sleepWrite

/-- The completion code a protocol cause answers (R158, R159). -/
def ProtocolCause.completion : ProtocolCause → Completion
  | .illegalOp => .illegalOp
  | .illegalState => .illegalState

end Sys2Proof.Machine
end

