-- ==== Sys2Proof/Machine/Ops.lean ====
section
/-! DEFINITION. The shared operations: offering and issuing a request, taking an answer, ending a
command, raising a cause, publishing, and reset. -/

namespace Sys2Proof.Machine

/-! The transport port (30_encoding.md R83). -/

/-- Offer a request word: `t_req_valid = 1`, `t_req` held until it is taken (R83). -/
def offer (w : BitVec 28) (s : State) : State := { s with tReq := some w }

/-- The transport takes the offered request: `t_req_valid` drops and the request is outstanding (R83). -/
def issue (r : Request) (s : State) : State :=
  record (.tReq s.cfg.devAddr r) { s with tReq := none, outstanding := some r }

/-- The answer is taken, if a request is outstanding; else it "is ignored" (R83).
`carried` is what the answer carries, `resume` what the sequencer does with it. -/
def takeAnswer (carried : Request → Answer) (resume : State → State) (s : State) : State :=
  match s.outstanding with
  | none => s
  | some r => resume (record (.tRsp (carried r)) { s with outstanding := none })

/-! The end of a command (60_exceptions.md R170). -/

/-- `rsp_valid` pulses with this code (R82, R170). -/
def respond (c : Completion) (s : State) : State := { s with rsp := some c.code }

/-- `BUF` is unspecified between commands (R29): a command that ran leaves a fresh free value in it. -/
def releaseBuf (s : State) : State :=
  { s with buf := Config.freeBuf s.freeCount, freeCount := s.freeCount + 1 }

/-- `SEQ <- IDLE; done(code)` (R170).
A command that never left `IDLE` (R133, no sink present) has used no register. -/
def endCommand (c : Completion) (s : State) : State :=
  respond c (if s.seq = .idle then s else { releaseBuf s with seq := .idle })

/-! Raising a cause (60_exceptions.md R155 to R158). -/

/-- `raise Fatal(cause)` (R156). -/
def raiseFatal (c : FatalCause) (s : State) : State :=
  endCommand .done (writeStatus c.kind c.msg { s with lc := .failed })

/-- `raise Warn(cause)` (R157): the command goes on. -/
def raiseWarn (c : WarnCause) (s : State) : State := writeStatus .warning c.msg s

/-- `raise Protocol(cause)` (R158): nothing but the completion code. -/
def raiseProtocol (c : ProtocolCause) (s : State) : State := respond c.completion s

/-- TAKING AN EXCEPTION: the effect of a cause (R155, R165).
There is no vector and no saved state, and no return operation (R166): a warning ends by
`clearWarning`, a fatal error by reset. -/
def raise (c : Cause) (s : State) : State :=
  match c with
  | .fatal f => raiseFatal f s
  | .warn w => raiseWarn w s
  | .protocol p => raiseProtocol p s

/-! Sinks and the discrete input (20_memory.md R57 to R59). -/

/-- `VOLT_OUT <- (1, w); Publish(V, w)` (R59, R124). -/
def publishVolt (w : BitVec 32) (s : State) : State :=
  record (.pub (.v w)) { s with voltOut := ⟨true, w⟩, vStrobe := true }

/-- `SOC_OUT <- (1, w); Publish(SOC, w)` (R59, R127). -/
def publishSoc (w : BitVec 32) (s : State) : State :=
  record (.pub (.soc w)) { s with socOut := ⟨true, w⟩, socStrobe := true }

/-- `PSRC_OUT <- (1, b); Publish(PS, b)` (R59, R130). -/
def publishLevel (b : Bool) (s : State) : State :=
  record (.pub (.ps b)) { s with psrcOut := ⟨true, b⟩, psStrobe := true }

/-- `DinConfigInput(); PIN_CFG <- 1` (R57). -/
def configurePin (s : State) : State := record .pinCfg { s with pinCfg := true }

/-- A strobe is one pulse (R59): it ends with the step after the publish. -/
def clearStrobes (s : State) : State :=
  { s with vStrobe := false, socStrobe := false, psStrobe := false }

/-! The environment's side of the ports. -/

/-- What the environment does next. -/
def setInputs (l : List PortInput) (s : State) : State := { s with inputs := l }

/-- The commands the host holds at the port. -/
def setHostCmds (l : List (BitVec 2)) (s : State) : State := { s with hostCmds := l }

/-- `t_req_ready`. -/
def setReady (b : Bool) (s : State) : State := { s with tReady := b }

/-- The level of the discrete input line. -/
def setDin (b : Bool) (s : State) : State := { s with dinLevel := b }

/-! Reset (70_reset_and_hazards.md R185, R188). -/

/-- `rst`: every register and port of the block takes its reset value, at any instant; a running
command is abandoned with no `done` (R188).
What belongs to the environment, the parameters and the record stand. -/
def applyReset (s : State) : State :=
  { State.reset with
    cfg := s.cfg
    hostCmds := s.hostCmds
    csrSel := s.csrSel
    tReady := s.tReady
    dinLevel := s.dinLevel
    inputs := s.inputs
    freeCount := s.freeCount
    trace := s.trace }

end Sys2Proof.Machine
end

