-- ==== Sys2Proof/Machine/Sequencer.lean ====
section
/-! DEFINITION. The three command sequences, cut where a command waits (40_setup.md R100, R108;
41_update.md R120, R133; 42_sleep.md R145, R149). -/

namespace Sys2Proof.Machine

/-! SETUP. -/

/-- `LC <- VALIDATING; SEQ <- SETUP_SEL`, and step 1's request (R100, R101). -/
def setupStart (s : State) : State :=
  offer qSelConfigWord { s with lc := .validating, seq := .setupSel }

/-- Step 1 answered `Ok`: step 2's request (R102). -/
def setupRead (s : State) : State := offer qRd2Word { s with seq := .setupRd }

/-- Step 2 answered `Ok([b0, b1])`: `BUF <- b0 b1` big-endian, steps 3 and 4, and step 5's request on a
match (R102 to R105). -/
def setupCheck (b0 b1 : Byte) (s : State) : State :=
  if idMatch (beWord b0 b1) then
    offer qWbConfigWord { s with buf := beWord b0 b1, seq := .setupWb }
  else raise (.fatal .unrecognised) { s with buf := beWord b0 b1 }

/-- Step 5 answered `Ok`: step 6 and the end (R106). -/
def setupFinish (s : State) : State :=
  endCommand .done { configurePin s with asleep := false, lc := .ready }

/-! UPDATE: each reading is made if its sink is present, else skipped (R132). -/

/-- The power-source reading, or the end (R130, R133). -/
def updatePower (s : State) : State :=
  if s.cfg.sinkPs then { s with seq := .updPs } else endCommand .done s

/-- The state-of-charge reading, or on to the next (R125, R133). -/
def updateSoc (s : State) : State :=
  if s.cfg.sinkSoc then offer qRdSocWord { s with seq := .updSoc } else updatePower s

/-- The voltage reading, or on to the next (R122, R133). -/
def updateVolt (s : State) : State :=
  if s.cfg.sinkV then offer qRdVcellWord { s with seq := .updV } else updateSoc s

/-- The voltage read answered `Ok(raw)` (R124). -/
def voltSuccess (raw : Word) (s : State) : State :=
  updateSoc (clearWarning (publishVolt (voltWord raw) { s with buf := raw }))

/-- The voltage read answered `Err` (R128). -/
def voltFailure (s : State) : State := updateSoc (raise (.warn .vcell) s)

/-- The state-of-charge read answered `Ok(raw)` (R127). -/
def socSuccess (raw : Word) (s : State) : State :=
  updatePower (clearWarning (publishSoc (socWord raw) { s with buf := raw }))

/-- The state-of-charge read answered `Err` (R129). -/
def socFailure (s : State) : State := updatePower (raise (.warn .soc) s)

/-- The power-source reading: one sample of the line, published as read, and the end (R58, R130). -/
def powerSample (s : State) : State :=
  endCommand .done (publishLevel s.dinLevel (record (.din s.dinLevel) s))

/-! SLEEP. -/

/-- `SEQ <- SLP_WR` and the one write (R147). -/
def sleepStart (s : State) : State := offer qSleepWord { s with seq := .slpWr }

/-- The write answered `Ok` (R147). -/
def sleepSuccess (s : State) : State := endCommand .done { s with asleep := true }

/-- The write answered `Err` (R148). -/
def sleepFailure (s : State) : State := endCommand .done (raise (.warn .sleepWrite) s)

/-! What an answer does, by the position that waits for it (R30). -/

/-- An `Ok` answer with these data.
`IDLE` and `UPD_PS` wait for no answer: none is outstanding there in a state a run reaches (log entry 9). -/
def resumeOk (rdata : Word) (s : State) : State :=
  match s.seq with
  | .idle => s
  | .setupSel => setupRead s
  | .setupRd => setupCheck (hiByte rdata) (loByte rdata) s
  | .setupWb => setupFinish s
  | .updV => voltSuccess rdata s
  | .updSoc => socSuccess rdata s
  | .updPs => s
  | .slpWr => sleepSuccess s

/-- An `Err` answer. -/
def resumeErr (s : State) : State :=
  match s.seq with
  | .idle => s
  | .setupSel => raise (.fatal .xportSelect) s
  | .setupRd => raise (.fatal .xportRead) s
  | .setupWb => raise (.fatal .sleepResetFailed) s
  | .updV => voltFailure s
  | .updSoc => socFailure s
  | .updPs => s
  | .slpWr => sleepFailure s

end Sys2Proof.Machine
end

