-- ==== Sys2Proof/Machine/Answer.lean ====
section
/-! DEFINITION. The `TRSP` family: the transport answers the outstanding request (30_encoding.md R80, R83). -/

namespace Sys2Proof.Machine

/-- `ok = 1`: success, with the data of a read (R80). -/
def execTOk (rdata : Word) (s : State) : Host.Outcome State Fault Refusal :=
  .next (takeAnswer (fun r => r.okAnswer rdata) (resumeOk rdata) s)

/-- `ok = 0`: failure; "`rdata` is ignored and may be anything" (R80). -/
def execTErr (_rdata : Word) (s : State) : Host.Outcome State Fault Refusal :=
  .next (takeAnswer (fun _ => .err) resumeErr s)

end Sys2Proof.Machine
end

