-- ==== Sys2Proof/Machine/Command.lean ====
section
/-! DEFINITION. The `CMD` family: a command word at the command port (30_encoding.md R77, R83, R85;
60_exceptions.md R158). -/

namespace Sys2Proof.Machine

/-- A command word at the port: accepted when the block is idle, else "simply not taken until the block
is idle", kept by the host behind those it presented before (R51, R83). -/
def atCommandPort (w : BitVec 2) (accept : State → State) (s : State) : State :=
  if s.seq = .idle then accept s else setHostCmds (s.hostCmds ++ [w]) s

/-- SETUP accepted: legal only in `UNINIT` (R100, R110). -/
def acceptSetup (s : State) : State :=
  match s.lc with
  | .uninit => setupStart s
  | .validating => raise (.protocol .illegalState) s
  | .ready => raise (.protocol .illegalState) s
  | .failed => raise (.protocol .illegalState) s

/-- UPDATE accepted: full effect in `READY`, `DONE` and nothing else in `FAILED` (R120, R121).
DEDUCED: an idle `VALIDATING`, which no run reaches, is not legal ("Legal when `LC == READY` or
`LC == FAILED`", log entry 8). -/
def acceptUpdate (s : State) : State :=
  match s.lc with
  | .uninit => raise (.protocol .illegalState) s
  | .validating => raise (.protocol .illegalState) s
  | .ready => updateVolt s
  | .failed => respond .done s

/-- SLEEP accepted (R145, R146).
DEDUCED: `VALIDATING` as in `acceptUpdate`. -/
def acceptSleep (s : State) : State :=
  match s.lc with
  | .uninit => raise (.protocol .illegalState) s
  | .validating => raise (.protocol .illegalState) s
  | .ready => sleepStart s
  | .failed => respond .done s

/-- `CMD 01` (R100). -/
def execSetup (s : State) : Host.Outcome State Fault Refusal :=
  .next (atCommandPort CmdOp.setup.code (fun s => acceptSetup (record (.cmd .setup) s)) s)

/-- `CMD 10` (R120). -/
def execUpdate (s : State) : Host.Outcome State Fault Refusal :=
  .next (atCommandPort CmdOp.update.code (fun s => acceptUpdate (record (.cmd .update) s)) s)

/-- `CMD 11` (R145). -/
def execSleep (s : State) : Host.Outcome State Fault Refusal :=
  .next (atCommandPort CmdOp.sleep.code (fun s => acceptSleep (record (.cmd .sleep) s)) s)

/-- `CMD 00`: "When accepted it does nothing but answer `ILLEGAL_OP`" (R85); R60 has no `Cmd` event for
it (log entry 7). -/
def execReservedCmd (s : State) : Host.Outcome State Fault Refusal :=
  .next (atCommandPort 0b00#2 (raise (.protocol .illegalOp)) s)

end Sys2Proof.Machine
end

