-- ==== Sys2Proof/Machine/Completion.lean ====
section
/-! DEFINITION. The `CRSP` family: the completion pulse reaches the host (30_encoding.md R82;
60_exceptions.md R170). -/

namespace Sys2Proof.Machine

/-- The pulse of `rsp_valid` with this code: it ends, and the command has ended with the code (R170;
R60 `Done`). -/
def complete (c : Completion) (s : State) : State := record (.done c) { s with rsp := none }

/-- `CRSP 00` (R82). -/
def execDone (s : State) : Host.Outcome State Fault Refusal := .next (complete .done s)

/-- `CRSP 01` (R82). -/
def execIllegalOp (s : State) : Host.Outcome State Fault Refusal := .next (complete .illegalOp s)

/-- `CRSP 10` (R82). -/
def execIllegalState (s : State) : Host.Outcome State Fault Refusal :=
  .next (complete .illegalState s)

end Sys2Proof.Machine
end

