-- ==== Sys2Proof/Machine/Introspection.lean ====
section
/-! DEFINITION. The `CSRSEL` family: the host reads an introspection register (10_state.md R40 to R44).
`csr_rdata` is `State.csrRdata`, combinational on the state and `csr_sel`. -/

namespace Sys2Proof.Machine

/-- Drive `csr_sel`; nothing else changes (R40). -/
def selectCsr (sel : BitVec 2) (s : State) : State := { s with csrSel := sel }

/-- CSR 0 (R41). -/
def execCsrDevaddr (s : State) : Host.Outcome State Fault Refusal := .next (selectCsr 0#2 s)

/-- CSR 1 (R42). -/
def execCsrState (s : State) : Host.Outcome State Fault Refusal := .next (selectCsr 1#2 s)

/-- CSR 2 (R43). -/
def execCsrStatus (s : State) : Host.Outcome State Fault Refusal := .next (selectCsr 2#2 s)

/-- CSR 3 (R44). -/
def execCsrSinks (s : State) : Host.Outcome State Fault Refusal := .next (selectCsr 3#2 s)

end Sys2Proof.Machine
end

