-- ==== Sys2Proof/Machine/Request.lean ====
section
/-! DEFINITION. The `TREQ` family: an offered request word is taken by the transport (30_encoding.md R78,
R81, R83).
The handshake of R83 depends on no field of the word (log entry 10). -/

namespace Sys2Proof.Machine

/-- A raw byte write (R52). -/
def execTWrite (len : BitVec 2) (addr : Byte) (wdata : Word) (s : State) :
    Host.Outcome State Fault Refusal := .next (issue ⟨.write, len, addr, wdata⟩ s)

/-- A raw byte read (R53). -/
def execTRead (len : BitVec 2) (addr : Byte) (wdata : Word) (s : State) :
    Host.Outcome State Fault Refusal := .next (issue ⟨.read, len, addr, wdata⟩ s)

/-- A combined 16-bit register read (R54). -/
def execTRead16 (len : BitVec 2) (addr : Byte) (wdata : Word) (s : State) :
    Host.Outcome State Fault Refusal := .next (issue ⟨.read16, len, addr, wdata⟩ s)

/-- A combined 16-bit register write (R55). -/
def execTWrite16 (len : BitVec 2) (addr : Byte) (wdata : Word) (s : State) :
    Host.Outcome State Fault Refusal := .next (issue ⟨.write16, len, addr, wdata⟩ s)

/-- SETUP step 1 (R101). -/
def execQSelConfig (s : State) : Host.Outcome State Fault Refusal := .next (issue reqSelConfig s)

/-- SETUP step 2 (R102). -/
def execQRd2 (s : State) : Host.Outcome State Fault Refusal := .next (issue reqRd2 s)

/-- SETUP step 5 (R105). -/
def execQWbConfig (s : State) : Host.Outcome State Fault Refusal := .next (issue reqWbConfig s)

/-- UPDATE voltage (R122). -/
def execQRdVcell (s : State) : Host.Outcome State Fault Refusal := .next (issue reqRdVcell s)

/-- UPDATE state of charge (R125). -/
def execQRdSoc (s : State) : Host.Outcome State Fault Refusal := .next (issue reqRdSoc s)

/-- SLEEP (R147). -/
def execQSleep (s : State) : Host.Outcome State Fault Refusal := .next (issue reqSleep s)

end Sys2Proof.Machine
end

