-- ==== Sys2Proof/Machine/Dispatch.lean ====
section
/-! DEFINITION. One arm per row of spec/opcode_table.json. -/

namespace Sys2Proof.Machine

def exec (i : Instr) (s : State) : Host.Outcome State Fault Refusal :=
  match i with
  | .setup => Sys2Proof.Machine.execSetup s
  | .update => Sys2Proof.Machine.execUpdate s
  | .sleep => Sys2Proof.Machine.execSleep s
  | .reservedCmd => Sys2Proof.Machine.execReservedCmd s
  | .done => Sys2Proof.Machine.execDone s
  | .illegalOp => Sys2Proof.Machine.execIllegalOp s
  | .illegalState => Sys2Proof.Machine.execIllegalState s
  | .tWrite len addr wdata => Sys2Proof.Machine.execTWrite len addr wdata s
  | .tRead len addr wdata => Sys2Proof.Machine.execTRead len addr wdata s
  | .tRead16 len addr wdata => Sys2Proof.Machine.execTRead16 len addr wdata s
  | .tWrite16 len addr wdata => Sys2Proof.Machine.execTWrite16 len addr wdata s
  | .qSelConfig => Sys2Proof.Machine.execQSelConfig s
  | .qRd2 => Sys2Proof.Machine.execQRd2 s
  | .qWbConfig => Sys2Proof.Machine.execQWbConfig s
  | .qRdVcell => Sys2Proof.Machine.execQRdVcell s
  | .qRdSoc => Sys2Proof.Machine.execQRdSoc s
  | .qSleep => Sys2Proof.Machine.execQSleep s
  | .tOk rdata => Sys2Proof.Machine.execTOk rdata s
  | .tErr rdata => Sys2Proof.Machine.execTErr rdata s
  | .csrDevaddr => Sys2Proof.Machine.execCsrDevaddr s
  | .csrState => Sys2Proof.Machine.execCsrState s
  | .csrStatus => Sys2Proof.Machine.execCsrStatus s
  | .csrSinks => Sys2Proof.Machine.execCsrSinks s

end Sys2Proof.Machine
end

