-- ==== Sys2Proof/Machine/Fetch.lean ====
section
/-! DEFINITION. Which transfer happens next, and at which port (30_encoding.md R83; 20_memory.md R51, R68).
DESIGN CHOICE: one step is one transfer, and the order of this file chooses it (log entry 11). -/

namespace Sys2Proof.Machine

/-- What the next step does. -/
inductive Action where
  /-- The word `w` crosses the port of format `f`, in the state `s`. -/
  | word (f : Format) (w : Nat) (s : State)
  /-- A change that no word causes. -/
  | silent (s : State)
  /-- Nothing can happen. -/
  | stuck (r : Fault)
  deriving DecidableEq, Repr

/-- The environment's next input, when the block has nothing of its own to do.
With none left, an idle block stays as it is (R167), and a block that waits for the transport is stuck
(R74). -/
def nextInput (s : State) : Action :=
  match s.inputs with
  | .cmd w :: rest => .word .cmd w.toNat (setInputs rest s)
  | .csr w :: rest => .word .csrSel w.toNat (setInputs rest s)
  | .answer w :: rest => .word .trsp w.toNat (setInputs rest s)
  | .ready b :: rest => .silent (setReady b (setInputs rest s))
  | .din b :: rest => .silent (setDin b (setInputs rest s))
  | .rst :: rest => .silent (applyReset (setInputs rest s))
  | [] =>
    if s.tReq.isSome then .stuck .requestNotTaken
    else if s.outstanding.isSome then .stuck .answerMissing
    else .silent s

/-- The command port: an idle block takes the command the host holds there (R51, R83). -/
def nextCommand (s : State) : Action :=
  match s.hostCmds with
  | w :: rest => if s.seq = .idle then .word .cmd w.toNat (setHostCmds rest s) else nextInput s
  | [] => nextInput s

/-- The sequencer at `UPD_PS` samples the line (R130). -/
def nextSample (s : State) : Action :=
  if s.seq = .updPs then .silent (powerSample s) else nextCommand s

/-- The transport port: an offered request is taken when `t_req_ready` is 1 (R83). -/
def nextRequest (s : State) : Action :=
  match s.tReq with
  | some w => if s.tReady then .word .treq w.toNat s else nextSample s
  | none => nextSample s

/-- The completion port: the pulse is one transfer long (R170). -/
def nextTransfer (s : State) : Action :=
  match s.rsp with
  | some w => .word .crsp w.toNat s
  | none => nextRequest s

/-- The next action: an asserted `rst` comes before everything (R185, R188). -/
def nextAction (s : State) : Action :=
  match s.inputs with
  | .rst :: rest => .silent (applyReset (setInputs rest s))
  | _ => nextTransfer s

/-- Drop asserted resets from the front of the scheduled inputs. -/
def withoutReset : List PortInput → List PortInput
  | .rst :: rest => withoutReset rest
  | l => l

/-- A state with no transfer of the block's own pending. -/
def quiet (s : State) : State :=
  { s with
    rsp := none
    tReq := none
    hostCmds := []
    seq := if s.seq = .updPs then .idle else s.seq }

/-- Put a table row's word at its port, so that the very next step transfers it (log entry 5). -/
def placeWord (f : Format) (w : Nat) (s : State) : State :=
  match f with
  | .cmd => { quiet s with inputs := .cmd (BitVec.ofNat 2 w) :: s.inputs }
  | .csrSel => { quiet s with inputs := .csr (BitVec.ofNat 2 w) :: s.inputs }
  | .trsp => { quiet s with inputs := .answer (BitVec.ofNat 17 w) :: s.inputs }
  | .treq =>
    { s with rsp := none, tReq := some (BitVec.ofNat 28 w), tReady := true,
             inputs := withoutReset s.inputs }
  | .crsp => { s with rsp := some (BitVec.ofNat 2 w), inputs := withoutReset s.inputs }

end Sys2Proof.Machine
end

