-- ==== Sys2Proof/Machine/Step.lean ====
section
/-! DEFINITION. One step: one transfer at one port, or one change that no word causes. -/

namespace Sys2Proof.Machine

/-- Decode the word that crosses a port and run it. -/
def runWord (f : Format) (w : Nat) (s : State) : Host.Outcome State Fault Refusal :=
  match decode f w with
  | .ok i => exec i s
  | .reject _ => .refused .reservedWord

/-- Do an action. -/
def runAction : Action → Host.Outcome State Fault Refusal
  | .word f w s => runWord f w s
  | .silent s => .next s
  | .stuck r => .fault r

/-- One step; the strobes of the step before it have ended. -/
def step (s : State) : Host.Outcome State Fault Refusal := runAction (nextAction (clearStrobes s))

/-- The state with a table row's word at its port. -/
def State.withFetchWord (s : State) (nbits w : Nat) : State := placeWord (tableFormat nbits) w s

end Sys2Proof.Machine
end

