-- ==== Sys2Proof/Safety.lean ====
section
/-! DEFINITION. The terms the statements use: the invariants, the reachable states, the events of a step,
and the numeric value of a published word. -/

namespace Sys2Proof.Machine

/-! Invariants. -/

/-- The sequencer positions of SETUP (R108). -/
def SeqPos.inSetup : SeqPos → Bool
  | .idle => false
  | .setupSel => true
  | .setupRd => true
  | .setupWb => true
  | .updV => false
  | .updSoc => false
  | .updPs => false
  | .slpWr => false

/-- The request a position waits on, by its fields (R30, R81). -/
def SeqPos.request : SeqPos → Option Request
  | .idle => none
  | .setupSel => some reqSelConfig
  | .setupRd => some reqRd2
  | .setupWb => some reqWbConfig
  | .updV => some reqRdVcell
  | .updSoc => some reqRdSoc
  | .updPs => none
  | .slpWr => some reqSleep

/-- The registers whose reset values R47 states have them. -/
def RegistersReset (s : State) : Prop :=
  s.lc = .uninit ∧ s.asleep = false ∧ s.pinCfg = false ∧ s.stKind = .ok ∧ s.stMsg = .none ∧
    s.voltOut.valid = false ∧ s.socOut.valid = false ∧ s.psrcOut.valid = false ∧ s.seq = .idle

/-- R46 (a) to (h). -/
structure ModeInv (s : State) : Prop where
  pin_iff_ready : s.pinCfg = true ↔ s.lc = .ready
  asleep_ready : s.asleep = true → s.lc = .ready
  error_failed : s.stKind = .error → s.lc = .failed
  failed_status : s.lc = .failed →
    (s.stKind = .warning ∧ s.stMsg = .none) ∨ (s.stKind = .error ∧ s.stMsg = .unrecognised) ∨
      (s.stKind = .error ∧ s.stMsg = .sleepResetFailed)
  ready_status : s.lc = .ready →
    (s.stKind = .ok ∧ s.stMsg = .none) ∨ (s.stKind = .warning ∧ s.stMsg = .vcell) ∨
      (s.stKind = .warning ∧ s.stMsg = .soc) ∨ (s.stKind = .warning ∧ s.stMsg = .sleepWrite)
  uninit_reset : s.lc = .uninit → RegistersReset s
  validating_iff : s.lc = .validating ↔ s.seq.inSetup = true
  valid_ready : s.voltOut.valid = true ∨ s.socOut.valid = true ∨ s.psrcOut.valid = true →
    s.lc = .ready

/-- What stands on the ports while a command runs (R38, R83, R108, R133, R149, R170). -/
structure PortInv (s : State) : Prop where
  /-- A busy block outside SETUP is `READY`. -/
  busy_ready : s.seq ≠ .idle → s.seq.inSetup = false → s.lc = .ready
  /-- The status is not written before SETUP ends (R106). -/
  validating_status : s.lc = .validating → s.stKind = .ok ∧ s.stMsg = .none
  /-- An offered word is that of the request the position waits on, and nothing is outstanding. -/
  offered : ∀ w, s.tReq = some w →
    s.outstanding = none ∧ ∃ r, s.seq.request = some r ∧ r.word = w
  /-- An outstanding request is the one the position waits on. -/
  issued : ∀ r, s.outstanding = some r → s.seq.request = some r
  /-- A position that waits on a request has offered or issued it. -/
  waiting : s.seq.request ≠ none → s.tReq ≠ none ∨ s.outstanding ≠ none
  /-- A completion is signalled by an idle block only, with a code that exists. -/
  completing : ∀ w, s.rsp = some w → s.seq = .idle ∧ w ≠ 3#2
  /-- A reading is made only for a sink that is present (R132). -/
  voltSink : s.seq = .updV → s.cfg.sinkV = true
  socSink : s.seq = .updSoc → s.cfg.sinkSoc = true
  psSink : s.seq = .updPs → s.cfg.sinkPs = true

/-- The invariant every step keeps. -/
structure Inv (s : State) : Prop where
  mode : ModeInv s
  port : PortInv s

/-- The states of a run: reset, in any environment and with any parameters, and then any steps. -/
inductive Reachable : State → Prop where
  | start (e : State) : Reachable (applyReset e)
  | next (s t : State) : Reachable s → step s = .next t → Reachable t

/-- The environment asserts `rst` now (R185). -/
def State.resetAsserted (s : State) : Prop := ∃ rest, s.inputs = .rst :: rest

/-- The step from `s` to `t` appended exactly these events to the trace. -/
def Appended (s t : State) (evs : List Event) : Prop := t.trace = s.trace ++ evs

/-- No transfer of the block's own is pending: what the environment does next decides the step. -/
def State.AtRest (s : State) : Prop :=
  s.rsp = none ∧ (s.tReq = none ∨ s.tReady = false) ∧ (s.hostCmds = [] ∨ s.seq ≠ .idle) ∧
    s.seq ≠ .updPs

/-- An idle block at rest, with nothing outstanding and a transport that takes requests. -/
def State.Waiting (s : State) : Prop :=
  s.seq = .idle ∧ s.rsp = none ∧ s.tReq = none ∧ s.outstanding = none ∧ s.hostCmds = [] ∧
    s.tReady = true

/-- `TRSP.ok` (R80). -/
def trspOk (a : BitVec 17) : Bool := a.getLsbD 16

/-- `TRSP.rdata` (R80). -/
def trspData (a : BitVec 17) : Word := a.extractLsb' 0 16

/-- An outcome with the next state changed by `f`. -/
def mapNext (f : State → State) : Host.Outcome State Fault Refusal → Host.Outcome State Fault Refusal
  | .next t => .next (f t)
  | .fault r => .fault r
  | .refused r => .refused r

/-! Numbers (00_scope.md R15; 30_encoding.md R89). -/

/-- The rational an exact result is. -/
def ExactQ.val (q : ExactQ) : Rat := (q.num : Rat) / (q.den : Rat)

/-- The biased exponent field, bits 30:23 (R89). -/
def f32Exp (w : BitVec 32) : Nat := (w.extractLsb' 23 8).toNat

/-- The fraction field, bits 22:0 (R89). -/
def f32Frac (w : BitVec 32) : Nat := (w.extractLsb' 0 23).toNat

/-- A binary32 that is a number: neither infinite nor NaN. -/
def f32Finite (w : BitVec 32) : Prop := f32Exp w ≠ 255

/-- The rational a finite binary32 is: sign, biased exponent, fraction (R89; the spec's G3).
`2^-150` is the unit of the exponent field's value 0 halved, so that one formula serves both. -/
def f32Value (w : BitVec 32) : Rat :=
  let mag : Nat := if f32Exp w = 0 then 2 * f32Frac w else (2 ^ 23 + f32Frac w) * 2 ^ f32Exp w
  (if w.getLsbD 31 then -1 else 1) * ((mag : Rat) / 2 ^ 150)

end Sys2Proof.Machine
end

