-- ==== Sys2Proof/Certificates/Slice0/Obligations.lean ====
section
/-! DEFINITION. The statements for the provers, from the numbered rules of spec/. -/

open Sys2Proof Sys2Proof.Machine

/-! ## Encoding -/

/-- Words written out from the spec's encodings, one or more for each format (R77, R82, R81, R78, R80,
R40). -/
def Obligations.DecodeOfWrittenWords : Prop :=
  decode .cmd 0b01 = .ok .setup ∧ decode .cmd 0b11 = .ok .sleep ∧
  decode .crsp 0b10 = .ok .illegalState ∧
  decode .treq 0b1100000011001001011100011100 = .ok .qWbConfig ∧
  decode .treq 0b0001000000000000110000000000 = .ok .qSelConfig ∧
  decode .treq 0b0010000000000001001000110100 = .ok (.tWrite 2#2 0x00#8 0x1234#16) ∧
  decode .trsp 0b11001011110011100 = .ok (.tOk 0x979C#16) ∧
  decode .trsp 0b00000000000000101 = .ok (.tErr 0x0005#16) ∧
  decode .csrSel 0b11 = .ok .csrSinks

/-- Decoding an encoded well-formed instruction gives it back (all formats, every operand). -/
def Obligations.DecodeOfEncodeIsTheInstruction : Prop :=
  ∀ i : Instr, WellFormed i = true → decode i.format (encode i) = .ok i

/-- Encoding a decoded word gives it back: every accepted word has one meaning, and no bit is dropped. -/
def Obligations.EncodeOfDecodeIsTheWord : Prop :=
  ∀ (f : Format) (w : Nat) (i : Instr), decode f w = .ok i → i.format = f ∧ encode i = w

/-- The decoder refuses exactly the words wider than their port, and `rsp_code = 11` (R82, R85, R86). -/
def Obligations.DecodeRejectsExactlyTheReserved : Prop :=
  ∀ (f : Format) (w : Nat) (r : Reject), decode f w = .reject r ↔
    (r = .tooWide ∧ 2 ^ f.width ≤ w) ∨ (r = .reservedCompletionCode ∧ f = .crsp ∧ w = 3)

/-- The six requests: their fields, the primitives they stand for, their words, and the instructions
those words decode to (R81, R9, R10). -/
def Obligations.SixRequestsAreTheirWords : Prop :=
  (reqSelConfig.word = 0x1000C00#28 ∧ reqSelConfig.primitive = some (.busWrite [0x0C#8]) ∧
    decode .treq 0x1000C00 = .ok .qSelConfig) ∧
  (reqRd2.word = 0x6000000#28 ∧ reqRd2.primitive = some (.busRead 2) ∧
    decode .treq 0x6000000 = .ok .qRd2) ∧
  (reqWbConfig.word = 0xC0C971C#28 ∧ reqWbConfig.primitive = some (.memWrite 0x0C#8 0x971C#16) ∧
    decode .treq 0xC0C971C = .ok .qWbConfig) ∧
  (reqRdVcell.word = 0x8020000#28 ∧ reqRdVcell.primitive = some (.memRead 0x02#8) ∧
    decode .treq 0x8020000 = .ok .qRdVcell) ∧
  (reqRdSoc.word = 0x8040000#28 ∧ reqRdSoc.primitive = some (.memRead 0x04#8) ∧
    decode .treq 0x8040000 = .ok .qRdSoc) ∧
  (reqSleep.word = 0xC0C979C#28 ∧ reqSleep.primitive = some (.memWrite 0x0C#8 0x979C#16) ∧
    decode .treq 0xC0C979C = .ok .qSleep)

/-! ## The step -/

/-- When a word at a port decodes to an instruction, the step is that instruction's `exec`, on the state
with the strobes of the step before ended and, for the ports the environment drives, the word taken
from it.
Which port comes first is the model's choice (log entry 11): reset, completion, request, sample of the
line, a held command, then the environment's next input. -/
def Obligations.StepRunsTheDecodedWord : Prop :=
  ∀ (s : State) (i : Instr),
    (∀ w : BitVec 2, ¬ s.resetAsserted → s.rsp = some w → decode .crsp w.toNat = .ok i →
      step s = exec i (clearStrobes s)) ∧
    (∀ w : BitVec 28, ¬ s.resetAsserted → s.rsp = none → s.tReq = some w → s.tReady = true →
      decode .treq w.toNat = .ok i → step s = exec i (clearStrobes s)) ∧
    (∀ (w : BitVec 2) (rest : List (BitVec 2)), ¬ s.resetAsserted → s.rsp = none →
      s.tReq = none ∨ s.tReady = false → s.seq = .idle → s.hostCmds = w :: rest → decode .cmd w.toNat = .ok i →
      step s = exec i (setHostCmds rest (clearStrobes s))) ∧
    (∀ (w : BitVec 2) (rest : List PortInput), s.AtRest → s.inputs = .cmd w :: rest →
      decode .cmd w.toNat = .ok i → step s = exec i (setInputs rest (clearStrobes s))) ∧
    (∀ (w : BitVec 17) (rest : List PortInput), s.AtRest → s.inputs = .answer w :: rest →
      decode .trsp w.toNat = .ok i → step s = exec i (setInputs rest (clearStrobes s))) ∧
    (∀ (w : BitVec 2) (rest : List PortInput), s.AtRest → s.inputs = .csr w :: rest →
      decode .csrSel w.toNat = .ok i → step s = exec i (setInputs rest (clearStrobes s)))

/-- The steps no word causes: the levels the environment drives, and an idle block with nothing to do
(R58, R83, R167). -/
def Obligations.StepWithoutAWord : Prop :=
  ∀ s : State, s.AtRest →
    (∀ (b : Bool) (rest : List PortInput), s.inputs = .ready b :: rest →
      step s = .next (setReady b (setInputs rest (clearStrobes s)))) ∧
    (∀ (b : Bool) (rest : List PortInput), s.inputs = .din b :: rest →
      step s = .next (setDin b (setInputs rest (clearStrobes s)))) ∧
    (s.inputs = [] → s.tReq = none → s.outstanding = none → step s = .next (clearStrobes s))

/-- A busy block whose request is not answered has no step (R74). -/
def Obligations.UnansweredRequestHasNoStep : Prop :=
  ∀ s : State, Inv s → s.outstanding ≠ none → s.inputs = [] → step s = .fault .answerMissing

/-- A step has no next state only while the block waits for a silent transport, and no word is ever
refused (R74, R85). -/
def Obligations.StepStopsOnlyForTheTransport : Prop :=
  ∀ s : State, Inv s →
    (∀ r, step s ≠ .refused r) ∧
    (∀ r, step s = .fault r → s.inputs = [] ∧ s.seq ≠ .idle ∧
      ((r = .answerMissing ∧ s.outstanding ≠ none) ∨
        (r = .requestNotTaken ∧ s.tReq ≠ none ∧ s.tReady = false)))

/-! ## Reset -/

/-- The reset values the spec states (R47, R185): registers, and outputs at rest. -/
def Obligations.ResetRegisterValues : Prop :=
  RegistersReset State.reset ∧ State.reset.cmdReady = true ∧ State.reset.rsp = none ∧
    State.reset.tReq = none ∧ State.reset.outstanding = none ∧ State.reset.dinCfgInput = false ∧
    State.reset.vStrobe = false ∧ State.reset.socStrobe = false ∧ State.reset.psStrobe = false

/-- An asserted `rst` resets the registers at any instant, signals no `done` (the trace gains nothing),
forgets the outstanding request, and changes neither the parameters nor the environment (R185, R186,
R188). -/
def Obligations.ResetLineResetsAtAnyInstant : Prop :=
  ∀ (s : State) (rest : List PortInput), s.inputs = .rst :: rest →
    ∃ t, step s = .next t ∧ RegistersReset t ∧ t.rsp = none ∧ t.tReq = none ∧ t.outstanding = none ∧
      t.vStrobe = false ∧ t.socStrobe = false ∧ t.psStrobe = false ∧ t.trace = s.trace ∧
      t.cfg = s.cfg ∧ t.inputs = rest ∧ t.hostCmds = s.hostCmds ∧ t.csrSel = s.csrSel ∧
      t.tReady = s.tReady ∧ t.dinLevel = s.dinLevel ∧ t.freeCount = s.freeCount

/-- The invariant holds after reset. -/
def Obligations.ResetSatisfiesInvariant : Prop := Inv State.reset

/-- Every step keeps the invariant: R46 (a) to (h) and what stands on the ports. -/
def Obligations.StepKeepsInvariant : Prop := ∀ s t : State, Inv s → step s = .next t → Inv t

/-- R46: what holds in every state reachable from reset, for any parameters and environment. -/
def Obligations.ReachableStatesKeepModeRules : Prop :=
  ∀ s : State, Reachable s →
    (s.pinCfg = true ↔ s.lc = .ready) ∧
    (s.asleep = true → s.lc = .ready) ∧
    (s.stKind = .error → s.lc = .failed) ∧
    (s.lc = .failed → (s.stKind, s.stMsg) ∈ [(StKind.warning, StMsg.none),
      (StKind.error, StMsg.unrecognised), (StKind.error, StMsg.sleepResetFailed)]) ∧
    (s.lc = .ready → (s.stKind, s.stMsg) ∈ [(StKind.ok, StMsg.none), (StKind.warning, StMsg.vcell),
      (StKind.warning, StMsg.soc), (StKind.warning, StMsg.sleepWrite)]) ∧
    (s.lc = .uninit → RegistersReset s) ∧
    (s.lc = .validating ↔ s.seq = .setupSel ∨ s.seq = .setupRd ∨ s.seq = .setupWb) ∧
    (s.voltOut.valid = true ∨ s.socOut.valid = true ∨ s.psrcOut.valid = true → s.lc = .ready)

/-- R27: the status pairs are exactly seven: no other is reachable, and each of them is.
A new status overwrites both parts and leaves every other register. -/
def Obligations.StatusPairsAreExactlySeven : Prop :=
  (∀ (k : StKind) (m : StMsg), (∃ s, Reachable s ∧ s.stKind = k ∧ s.stMsg = m) ↔
    (k, m) ∈ [(StKind.ok, StMsg.none), (StKind.warning, StMsg.none), (StKind.warning, StMsg.vcell),
      (StKind.warning, StMsg.soc), (StKind.warning, StMsg.sleepWrite),
      (StKind.error, StMsg.unrecognised), (StKind.error, StMsg.sleepResetFailed)]) ∧
  (∀ (k : StKind) (m : StMsg) (s : State),
    writeStatus k m s = { s with stKind := k, stMsg := m, trace := s.trace ++ [.status k m] })

/-- At most one request is outstanding, none while the block is idle, and a request is issued only when
none is (R38, R68, R83). -/
def Obligations.OneRequestAtATime : Prop :=
  (∀ s : State, Reachable s → ¬ (s.tReq ≠ none ∧ s.outstanding ≠ none) ∧
    (s.seq = .idle → s.tReq = none ∧ s.outstanding = none)) ∧
  (∀ s t : State, Reachable s → step s = .next t → ∀ dev r,
    .tReq dev r ∈ t.trace.drop s.trace.length →
      t.trace = s.trace ++ [.tReq dev r] ∧ s.outstanding = none ∧ t.outstanding = some r)

/-! ## Commands -/

/-- The legality table (60_exceptions.md section 1): a protocol fault writes nothing but the completion code, at once; a command runs
where the table says so; a `FAILED` block answers `DONE` with no effect; and in `VALIDATING` the port
takes no command.
"Runs" is said as: the command's own sequence starts (R100, R120, R145).
That an illegal command is executed, where R158 advises a model to refuse it, and that the reserved opcode
records no `Cmd` event, are the model's readings (log entry 7). -/
def Obligations.CommandLegality : Prop :=
  ∀ s : State,
    (s.seq = .idle →
      exec .reservedCmd s = .next { s with rsp := some 0b01#2 } ∧
      (s.lc = .uninit →
        exec .setup s = .next (setupStart { s with trace := s.trace ++ [.cmd .setup] }) ∧
        exec .update s = .next { s with rsp := some 0b10#2, trace := s.trace ++ [.cmd .update] } ∧
        exec .sleep s = .next { s with rsp := some 0b10#2, trace := s.trace ++ [.cmd .sleep] }) ∧
      (s.lc = .ready →
        exec .setup s = .next { s with rsp := some 0b10#2, trace := s.trace ++ [.cmd .setup] } ∧
        exec .update s = .next (updateVolt { s with trace := s.trace ++ [.cmd .update] }) ∧
        exec .sleep s = .next (sleepStart { s with trace := s.trace ++ [.cmd .sleep] })) ∧
      (s.lc = .failed →
        exec .setup s = .next { s with rsp := some 0b10#2, trace := s.trace ++ [.cmd .setup] } ∧
        exec .update s = .next { s with rsp := some 0b00#2, trace := s.trace ++ [.cmd .update] } ∧
        exec .sleep s = .next { s with rsp := some 0b00#2, trace := s.trace ++ [.cmd .sleep] })) ∧
    (Inv s → s.lc = .validating → s.cmdReady = false)

/-- A command presented to a busy block changes nothing in the block: it waits at the port, behind those
presented before it (R51, R83).
That a model keeps the waiting commands in a list is its own choice (log entry 11). -/
def Obligations.BusyPortTakesNoCommand : Prop :=
  ∀ s : State, s.seq ≠ .idle →
    s.cmdReady = false ∧
    exec .reservedCmd s = .next { s with hostCmds := s.hostCmds ++ [0b00#2] } ∧
    exec .setup s = .next { s with hostCmds := s.hostCmds ++ [0b01#2] } ∧
    exec .update s = .next { s with hostCmds := s.hostCmds ++ [0b10#2] } ∧
    exec .sleep s = .next { s with hostCmds := s.hostCmds ++ [0b11#2] }

/-- An idle `VALIDATING` block, which no run reaches, answers `ILLEGAL_STATE` to each command: for SETUP that
is R110, for UPDATE and SLEEP the model's reading (log entry 8). -/
def Obligations.IdleValidatingAnswersIllegalState : Prop :=
  ∀ s : State, s.seq = .idle → s.lc = .validating →
    exec .setup s = .next { s with rsp := some 0b10#2, trace := s.trace ++ [.cmd .setup] } ∧
    exec .update s = .next { s with rsp := some 0b10#2, trace := s.trace ++ [.cmd .update] } ∧
    exec .sleep s = .next { s with rsp := some 0b10#2, trace := s.trace ++ [.cmd .sleep] }

/-- SETUP accepted in `UNINIT`: `LC <- VALIDATING`, `SEQ <- SETUP_SEL`, step 1's request offered, and
nothing else (R100, R101, R108). -/
def Obligations.SetupStartsValidation : Prop :=
  ∀ s : State, s.seq = .idle → s.lc = .uninit →
    exec .setup s = .next { s with
      lc := .validating, seq := .setupSel, tReq := some 0x1000C00#28
      trace := s.trace ++ [.cmd .setup] }

/-- UPDATE accepted in `READY`: on to the first reading whose sink is present, or done at once (R120,
R132, R133). -/
def Obligations.UpdateStartsTheFirstPresentReading : Prop :=
  ∀ s : State, s.seq = .idle → s.lc = .ready →
    (s.cfg.sinkV = true → exec .update s = .next { s with
      seq := .updV, tReq := some 0x8020000#28, trace := s.trace ++ [.cmd .update] }) ∧
    (s.cfg.sinkV = false → s.cfg.sinkSoc = true → exec .update s = .next { s with
      seq := .updSoc, tReq := some 0x8040000#28, trace := s.trace ++ [.cmd .update] }) ∧
    (s.cfg.sinkV = false → s.cfg.sinkSoc = false → s.cfg.sinkPs = true → exec .update s = .next { s with
      seq := .updPs, trace := s.trace ++ [.cmd .update] }) ∧
    (s.cfg.sinkV = false → s.cfg.sinkSoc = false → s.cfg.sinkPs = false → exec .update s = .next { s with
      rsp := some 0b00#2, trace := s.trace ++ [.cmd .update] })

/-- SLEEP accepted in `READY`: `SEQ <- SLP_WR` and the one write of `0x979C`, whatever `ASLEEP` is
(R145, R146, R147, R149). -/
def Obligations.SleepStartsOneWrite : Prop :=
  ∀ s : State, s.seq = .idle → s.lc = .ready →
    exec .sleep s = .next { s with
      seq := .slpWr, tReq := some 0xC0C979C#28, trace := s.trace ++ [.cmd .sleep] }

/-! ## Requests and completions -/

/-- An offered request is taken: `t_req_valid` drops, the request is outstanding at the one device
address, nothing else changes; each word issues the request of its own fields (R52 to R55, R73, R78,
R83).
That the handshake depends on no field, so that it is the same for a word the block never offers, is
the model's choice (log entry 10). -/
def Obligations.RequestIsIssued : Prop :=
  ∀ s : State,
    (∀ (len : BitVec 2) (addr : Byte) (wdata : Word),
      (∃ t, exec (.tWrite len addr wdata) s = .next t ∧
        t = { s with tReq := none, outstanding := some ⟨.write, len, addr, wdata⟩
                     trace := s.trace ++ [.tReq s.cfg.devAddr ⟨.write, len, addr, wdata⟩] }) ∧
      (∃ t, exec (.tRead len addr wdata) s = .next t ∧
        t = { s with tReq := none, outstanding := some ⟨.read, len, addr, wdata⟩
                     trace := s.trace ++ [.tReq s.cfg.devAddr ⟨.read, len, addr, wdata⟩] }) ∧
      (∃ t, exec (.tRead16 len addr wdata) s = .next t ∧
        t = { s with tReq := none, outstanding := some ⟨.read16, len, addr, wdata⟩
                     trace := s.trace ++ [.tReq s.cfg.devAddr ⟨.read16, len, addr, wdata⟩] }) ∧
      (∃ t, exec (.tWrite16 len addr wdata) s = .next t ∧
        t = { s with tReq := none, outstanding := some ⟨.write16, len, addr, wdata⟩
                     trace := s.trace ++ [.tReq s.cfg.devAddr ⟨.write16, len, addr, wdata⟩] })) ∧
    (∀ (i : Instr) (r : Request),
      (i, r) ∈ [(Instr.qSelConfig, Request.mk .write 1#2 0x00#8 0x0C00#16),
        (Instr.qRd2, Request.mk .read 2#2 0x00#8 0x0000#16),
        (Instr.qWbConfig, Request.mk .write16 0#2 0x0C#8 0x971C#16),
        (Instr.qRdVcell, Request.mk .read16 0#2 0x02#8 0x0000#16),
        (Instr.qRdSoc, Request.mk .read16 0#2 0x04#8 0x0000#16),
        (Instr.qSleep, Request.mk .write16 0#2 0x0C#8 0x979C#16)] →
      exec i s = .next { s with
        tReq := none, outstanding := some r, trace := s.trace ++ [.tReq s.cfg.devAddr r] })

/-- R81: the words offered are exactly six constants, each offered at its own position and nowhere else
(and each of them is offered in some reachable state); each is the word of its row's fields and stands
for its row's primitive, and `TREQ = kind<<26 | len<<24 | addr<<16 | wdata`. -/
def Obligations.OfferedWordsAreTheSix : Prop :=
  let rows : List (SeqPos × Primitive × Request × BitVec 28) :=
    [(.setupSel, .busWrite [0x0C#8], ⟨.write, 0b01#2, 0x00#8, 0x0C00#16⟩, 0x1000C00#28),
      (.setupRd, .busRead 2, ⟨.read, 0b10#2, 0x00#8, 0x0000#16⟩, 0x6000000#28),
      (.setupWb, .memWrite 0x0C#8 0x971C#16, ⟨.write16, 0b00#2, 0x0C#8, 0x971C#16⟩, 0xC0C971C#28),
      (.updV, .memRead 0x02#8, ⟨.read16, 0b00#2, 0x02#8, 0x0000#16⟩, 0x8020000#28),
      (.updSoc, .memRead 0x04#8, ⟨.read16, 0b00#2, 0x04#8, 0x0000#16⟩, 0x8040000#28),
      (.slpWr, .memWrite 0x0C#8 0x979C#16, ⟨.write16, 0b00#2, 0x0C#8, 0x979C#16⟩, 0xC0C979C#28)]
  (∀ (q : SeqPos) (w : BitVec 28), (∃ s, Reachable s ∧ s.seq = q ∧ s.tReq = some w) ↔
    ∃ p r, (q, p, r, w) ∈ rows) ∧
  (∀ row ∈ rows, row.2.2.1.word = row.2.2.2 ∧ row.2.2.1.primitive = some row.2.1) ∧
  (∀ r : Request, r.word = (r.kind.code.setWidth 28 <<< 26) ||| (r.len.setWidth 28 <<< 24) |||
    (r.addr.setWidth 28 <<< 16) ||| r.wdata.setWidth 28)

/-- Every request a step issues goes to the instance's one device address, is one of the six, and is the
request of the position (R73, R81, R61). -/
def Obligations.EveryRequestGoesToTheDevice : Prop :=
  ∀ s t : State, Reachable s → step s = .next t → ∀ dev r,
    .tReq dev r ∈ t.trace.drop s.trace.length →
      dev = s.cfg.devAddr ∧ s.seq.request = some r ∧
      r.primitive ∈ [some (.busWrite [0x0C#8]), some (.busRead 2), some (.memWrite 0x0C#8 0x971C#16),
        some (.memRead 0x02#8), some (.memRead 0x04#8), some (.memWrite 0x0C#8 0x979C#16)]

/-- The completion pulse: it ends, the command has ended with its code, nothing else changes (R82, R170). -/
def Obligations.CompletionReachesTheHost : Prop :=
  ∀ s : State,
    exec .done s = .next { s with rsp := none, trace := s.trace ++ [.done .done] } ∧
    exec .illegalOp s = .next { s with rsp := none, trace := s.trace ++ [.done .illegalOp] } ∧
    exec .illegalState s = .next { s with rsp := none, trace := s.trace ++ [.done .illegalState] }

/-! ## Answers -/

/-- An answer with no request outstanding is ignored (R83). -/
def Obligations.UnsolicitedAnswerIsIgnored : Prop :=
  ∀ (s : State) (d : Word), s.outstanding = none →
    exec (.tOk d) s = .next s ∧ exec (.tErr d) s = .next s

/-- An answer at a position that waits for none, with a request outstanding all the same: the request ends
and nothing else happens.
No run reaches this, and what happens is the model's choice (log entry 9). -/
def Obligations.AnswerWhereNoneIsAwaited : Prop :=
  ∀ (s : State) (r : Request) (d : Word), s.outstanding = some r → s.seq = .idle ∨ s.seq = .updPs →
    exec (.tOk d) s = .next { s with
      outstanding := none, trace := s.trace ++ [.tRsp (r.okAnswer d)] } ∧
    exec (.tErr d) s = .next { s with outstanding := none, trace := s.trace ++ [.tRsp .err] }

/-- `T_OK` during SETUP.
Step 1: on to the 2-byte read.
Step 2: `BUF` is the big-endian value; a match goes on to the write-back of the constant, a mismatch
fails "unrecognised".
Step 5: the pin is configured and the block is `READY`, awake, with its status untouched (R101 to R106,
R63, R109).
Where the command ends, `BUF` is the free value `Config.freeBuf` (R29; log entry 3). -/
def Obligations.SetupGoesOnWithGoodAnswers : Prop :=
  ∀ (s : State) (r : Request) (b0 b1 : Byte), s.outstanding = some r →
    (s.seq = .setupSel → exec (.tOk (b0 ++ b1)) s = .next { s with
      outstanding := none, seq := .setupRd, tReq := some 0x6000000#28
      trace := s.trace ++ [.tRsp (r.okAnswer (b0 ++ b1))] }) ∧
    (s.seq = .setupRd → (b0 ++ b1) &&& 0xFF1F#16 = 0x971C#16 →
      exec (.tOk (b0 ++ b1)) s = .next { s with
        outstanding := none, buf := b0 ++ b1, seq := .setupWb, tReq := some 0xC0C971C#28
        trace := s.trace ++ [.tRsp (r.okAnswer (b0 ++ b1))] }) ∧
    (s.seq = .setupRd → (b0 ++ b1) &&& 0xFF1F#16 ≠ 0x971C#16 →
      exec (.tOk (b0 ++ b1)) s = .next { s with
        outstanding := none, lc := .failed, stKind := .error, stMsg := .unrecognised
        buf := Config.freeBuf s.freeCount, freeCount := s.freeCount + 1
        seq := .idle, rsp := some 0b00#2
        trace := s.trace ++ [.tRsp (r.okAnswer (b0 ++ b1)), .status .error .unrecognised] }) ∧
    (s.seq = .setupWb → exec (.tOk (b0 ++ b1)) s = .next { s with
      outstanding := none, pinCfg := true, asleep := false, lc := .ready
      buf := Config.freeBuf s.freeCount, freeCount := s.freeCount + 1
      seq := .idle, rsp := some 0b00#2
      trace := s.trace ++ [.tRsp (r.okAnswer (b0 ++ b1)), .pinCfg] })

/-- `T_ERR` during SETUP: the three fatal causes of a transport error (R107, R105, R156, R159, R160). -/
def Obligations.SetupFailsOnErrors : Prop :=
  ∀ (s : State) (r : Request) (d : Word), s.outstanding = some r →
    (s.seq = .setupSel ∨ s.seq = .setupRd → exec (.tErr d) s = .next { s with
      outstanding := none, lc := .failed, stKind := .warning, stMsg := .none
      buf := Config.freeBuf s.freeCount, freeCount := s.freeCount + 1
      seq := .idle, rsp := some 0b00#2
      trace := s.trace ++ [.tRsp .err, .status .warning .none] }) ∧
    (s.seq = .setupWb → exec (.tErr d) s = .next { s with
      outstanding := none, lc := .failed, stKind := .error, stMsg := .sleepResetFailed
      buf := Config.freeBuf s.freeCount, freeCount := s.freeCount + 1
      seq := .idle, rsp := some 0b00#2
      trace := s.trace ++ [.tRsp .err, .status .error .sleepResetFailed] })

/-- `T_OK` at the voltage reading: `VOLT_OUT` and the sink take `rne32(VDEC(raw))`, any warning is
cleared, and UPDATE goes on to the next present reading or ends (R124, R131, R132, R133, R163). -/
def Obligations.VoltageReadingSucceeds : Prop :=
  ∀ (s : State) (r : Request) (raw : Word), s.outstanding = some r → s.seq = .updV →
    ∃ t, exec (.tOk raw) s = .next t ∧
      t.voltOut = ⟨true, rne32 (vdec raw)⟩ ∧ t.vPubData = rne32 (vdec raw) ∧ t.vStrobe = true ∧
      (s.stKind = .warning → t.stKind = .ok ∧ t.stMsg = .none ∧
        t.trace = s.trace ++ [.tRsp (r.okAnswer raw), .pub (.v (rne32 (vdec raw))), .status .ok .none]) ∧
      (s.stKind ≠ .warning → t.stKind = s.stKind ∧ t.stMsg = s.stMsg ∧
        t.trace = s.trace ++ [.tRsp (r.okAnswer raw), .pub (.v (rne32 (vdec raw)))]) ∧
      (s.cfg.sinkSoc = true → t.seq = .updSoc ∧ t.tReq = some 0x8040000#28 ∧ t.rsp = s.rsp) ∧
      (s.cfg.sinkSoc = false → s.cfg.sinkPs = true → t.seq = .updPs ∧ t.tReq = s.tReq ∧ t.rsp = s.rsp) ∧
      (s.cfg.sinkSoc = false → s.cfg.sinkPs = false → t.seq = .idle ∧ t.tReq = s.tReq ∧
        t.rsp = some 0b00#2) ∧
      t.outstanding = none ∧ t.lc = s.lc ∧ t.asleep = s.asleep ∧ t.pinCfg = s.pinCfg ∧
      t.socOut = s.socOut ∧ t.psrcOut = s.psrcOut ∧ t.socStrobe = s.socStrobe ∧
      t.psStrobe = s.psStrobe

/-- `T_OK` at the state-of-charge reading (R127, R131, R132, R133, R163). -/
def Obligations.SocReadingSucceeds : Prop :=
  ∀ (s : State) (r : Request) (raw : Word), s.outstanding = some r → s.seq = .updSoc →
    ∃ t, exec (.tOk raw) s = .next t ∧
      t.socOut = ⟨true, rne32 (socdec raw)⟩ ∧ t.socPubData = rne32 (socdec raw) ∧ t.socStrobe = true ∧
      (s.stKind = .warning → t.stKind = .ok ∧ t.stMsg = .none ∧
        t.trace = s.trace ++
          [.tRsp (r.okAnswer raw), .pub (.soc (rne32 (socdec raw))), .status .ok .none]) ∧
      (s.stKind ≠ .warning → t.stKind = s.stKind ∧ t.stMsg = s.stMsg ∧
        t.trace = s.trace ++ [.tRsp (r.okAnswer raw), .pub (.soc (rne32 (socdec raw)))]) ∧
      (s.cfg.sinkPs = true → t.seq = .updPs ∧ t.rsp = s.rsp) ∧
      (s.cfg.sinkPs = false → t.seq = .idle ∧ t.rsp = some 0b00#2) ∧
      t.outstanding = none ∧ t.tReq = s.tReq ∧ t.lc = s.lc ∧ t.asleep = s.asleep ∧
      t.pinCfg = s.pinCfg ∧ t.voltOut = s.voltOut ∧ t.psrcOut = s.psrcOut ∧ t.vStrobe = s.vStrobe ∧
      t.psStrobe = s.psStrobe

/-- `T_ERR` at a reading: a warning replaces the status, every holding register keeps its value, nothing
is published, `LC` stays, and UPDATE goes on to the next present reading or ends (R128, R129, R131,
R157, R159). -/
def Obligations.FailedReadingKeepsPublishedValues : Prop :=
  ∀ (s : State) (r : Request) (d : Word), s.outstanding = some r → s.seq = .updV ∨ s.seq = .updSoc →
    ∃ t, exec (.tErr d) s = .next t ∧ t.stKind = .warning ∧
      (s.seq = .updV → t.stMsg = .vcell ∧
        t.trace = s.trace ++ [.tRsp .err, .status .warning .vcell] ∧
        (s.cfg.sinkSoc = true → t.seq = .updSoc ∧ t.tReq = some 0x8040000#28 ∧ t.rsp = s.rsp)) ∧
      (s.seq = .updSoc → t.stMsg = .soc ∧
        t.trace = s.trace ++ [.tRsp .err, .status .warning .soc]) ∧
      (s.seq = .updSoc ∨ s.cfg.sinkSoc = false → t.tReq = s.tReq ∧
        (s.cfg.sinkPs = true → t.seq = .updPs ∧ t.rsp = s.rsp) ∧
        (s.cfg.sinkPs = false → t.seq = .idle ∧ t.rsp = some 0b00#2)) ∧
      t.voltOut = s.voltOut ∧ t.socOut = s.socOut ∧ t.psrcOut = s.psrcOut ∧
      t.vStrobe = s.vStrobe ∧ t.socStrobe = s.socStrobe ∧ t.psStrobe = s.psStrobe ∧
      t.outstanding = none ∧ t.lc = s.lc ∧ t.asleep = s.asleep ∧ t.pinCfg = s.pinCfg

/-- The power-source reading: the line's level, uninverted, is sampled, held and published, the status is
not touched, and UPDATE ends (R130, R58, R133). -/
def Obligations.PowerSourceIsPublishedAsRead : Prop :=
  ∀ s : State, ¬ s.resetAsserted → s.rsp = none →
    s.tReq = none ∨ s.tReady = false → s.seq = .updPs →
    step s = .next { clearStrobes s with
      psrcOut := ⟨true, s.dinLevel⟩, psStrobe := true
      buf := Config.freeBuf s.freeCount, freeCount := s.freeCount + 1
      seq := .idle, rsp := some 0b00#2
      trace := s.trace ++ [.din s.dinLevel, .pub (.ps s.dinLevel)] }

/-- The answers to SLEEP's write: `Ok` sets `ASLEEP` and touches no status; `Err` warns and leaves
`ASLEEP`; both end the command (R147, R148, R149). -/
def Obligations.SleepRecordsItsAnswer : Prop :=
  ∀ (s : State) (r : Request) (d : Word), s.outstanding = some r → s.seq = .slpWr →
    exec (.tOk d) s = .next { s with
      outstanding := none, asleep := true
      buf := Config.freeBuf s.freeCount, freeCount := s.freeCount + 1
      seq := .idle, rsp := some 0b00#2
      trace := s.trace ++ [.tRsp (r.okAnswer d)] } ∧
    exec (.tErr d) s = .next { s with
      outstanding := none, stKind := .warning, stMsg := .sleepWrite
      buf := Config.freeBuf s.freeCount, freeCount := s.freeCount + 1
      seq := .idle, rsp := some 0b00#2
      trace := s.trace ++ [.tRsp .err, .status .warning .sleepWrite] }

/-- What no answer changes, at any position: the parameters, the environment, and the trace so far.
During SETUP no holding register and no strobe changes; outside it `LC` and `PIN_CFG` do not; `ASLEEP`
only becomes 0 in SETUP and 1 in SLEEP (R35, R120, R145, R156). -/
def Obligations.AnswersLeaveTheRestAlone : Prop :=
  ∀ (s t : State) (d : Word) (i : Instr), i = .tOk d ∨ i = .tErr d → exec i s = .next t →
    t.cfg = s.cfg ∧ t.hostCmds = s.hostCmds ∧ t.csrSel = s.csrSel ∧ t.tReady = s.tReady ∧
    t.dinLevel = s.dinLevel ∧ t.inputs = s.inputs ∧ s.trace <+: t.trace ∧
    (s.seq.inSetup = true → t.voltOut = s.voltOut ∧ t.socOut = s.socOut ∧ t.vStrobe = s.vStrobe ∧
      t.socStrobe = s.socStrobe) ∧
    (s.seq.inSetup = false → t.lc = s.lc ∧ t.pinCfg = s.pinCfg) ∧
    (t.asleep ≠ s.asleep → i = .tOk d ∧
      ((s.seq = .setupWb ∧ t.asleep = false) ∨ (s.seq = .slpWr ∧ t.asleep = true))) ∧
    t.psrcOut = s.psrcOut ∧ t.psStrobe = s.psStrobe

/-- What an answer does to the hidden register `BUF` (R29): a good read leaves its data there, the end of a
command leaves the free value `Config.freeBuf` (the model's form of "unspecified", log entry 3), and
every other answer leaves it. -/
def Obligations.AnswersAndTheBuffer : Prop :=
  ∀ (s t : State) (d : Word) (i : Instr), i = .tOk d ∨ i = .tErr d → exec i s = .next t →
    s.seq ≠ .idle →
    (t.seq = .idle → t.buf = Config.freeBuf s.freeCount ∧ t.freeCount = s.freeCount + 1) ∧
    (t.seq ≠ .idle → t.freeCount = s.freeCount ∧
      (i = .tOk d → s.outstanding ≠ none → s.seq = .setupRd ∨ s.seq = .updV ∨ s.seq = .updSoc →
        t.buf = d) ∧
      (i = .tErr d ∨ s.outstanding = none ∨ s.seq = .setupSel → t.buf = s.buf))

/-! ## Introspection -/

/-- A read of an introspection register is legal in every state and changes nothing but the selection
(R40). -/
def Obligations.CsrReadHasNoSideEffect : Prop :=
  ∀ s : State,
    exec .csrDevaddr s = .next { s with csrSel := 0#2 } ∧
    exec .csrState s = .next { s with csrSel := 1#2 } ∧
    exec .csrStatus s = .next { s with csrSel := 2#2 } ∧
    exec .csrSinks s = .next { s with csrSel := 3#2 }

/-- CSR 0 (R41). -/
def Obligations.CsrDevaddrLayout : Prop :=
  ∀ s : State, (∃ t, exec .csrDevaddr s = .next t ∧ t.csrSel = 0#2 ∧
      t.csrRdata.extractLsb' 0 7 = s.cfg.devAddr ∧ t.csrRdata.extractLsb' 7 9 = 0#9) ∧
    (∀ u, step s = .next u → csrDevaddrWord u = csrDevaddrWord s)

/-- CSR 1 (R42). -/
def Obligations.CsrStateLayout : Prop :=
  (∀ s : State, ∃ t, exec .csrState s = .next t ∧ t.csrSel = 1#2 ∧
    t.csrRdata.extractLsb' 0 2 = s.lc.code ∧ (t.csrRdata.getLsbD 2 = true ↔ s.lc = .failed) ∧
    t.csrRdata.getLsbD 3 = s.asleep ∧ t.csrRdata.getLsbD 4 = s.pinCfg ∧
    (t.csrRdata.getLsbD 5 = true ↔ s.seq ≠ .idle) ∧ t.csrRdata.extractLsb' 6 10 = 0#10) ∧
  (Lifecycle.code .uninit = 0#2 ∧ Lifecycle.code .validating = 1#2 ∧ Lifecycle.code .ready = 2#2 ∧
    Lifecycle.code .failed = 3#2) ∧
  (∀ e : State, csrStateWord (applyReset e) = 0x0000#16)

/-- CSR 2 (R43): its layout with the codes of the kinds and messages (R25, R26), its reset value, which of
the seven pairs has which value, and that a reachable state shows no other. -/
def Obligations.CsrStatusLayout : Prop :=
  (∀ s : State, ∃ t, exec .csrStatus s = .next t ∧ t.csrSel = 2#2 ∧
    t.csrRdata.extractLsb' 0 2 = s.stKind.code ∧ t.csrRdata.extractLsb' 2 3 = s.stMsg.code ∧
    t.csrRdata.extractLsb' 5 11 = 0#11) ∧
  (StKind.code .ok = 0#2 ∧ StKind.code .warning = 1#2 ∧ StKind.code .error = 2#2) ∧
  (StMsg.code .none = 0#3 ∧ StMsg.code .unrecognised = 1#3 ∧ StMsg.code .sleepResetFailed = 2#3 ∧
    StMsg.code .vcell = 3#3 ∧ StMsg.code .soc = 4#3 ∧ StMsg.code .sleepWrite = 5#3) ∧
  (∀ e : State, csrStatusWord (applyReset e) = 0x0000#16) ∧
  (∀ s : State, ∀ row ∈ [(StKind.ok, StMsg.none, 0x0000#16), (StKind.warning, StMsg.none, 0x0001#16),
      (StKind.warning, StMsg.vcell, 0x000D#16), (StKind.warning, StMsg.soc, 0x0011#16),
      (StKind.warning, StMsg.sleepWrite, 0x0015#16), (StKind.error, StMsg.unrecognised, 0x0006#16),
      (StKind.error, StMsg.sleepResetFailed, 0x000A#16)],
    s.stKind = row.1 → s.stMsg = row.2.1 → csrStatusWord s = row.2.2) ∧
  (∀ v : Word, (∃ s, Reachable s ∧ csrStatusWord s = v) ↔
    v ∈ [0x0000#16, 0x0001#16, 0x000D#16, 0x0011#16, 0x0015#16, 0x0006#16, 0x000A#16])

/-- CSR 3 (R44). -/
def Obligations.CsrSinksLayout : Prop :=
  (∀ s : State, ∃ t, exec .csrSinks s = .next t ∧ t.csrSel = 3#2 ∧
    t.csrRdata.getLsbD 0 = s.cfg.sinkV ∧ t.csrRdata.getLsbD 1 = s.cfg.sinkSoc ∧
    t.csrRdata.getLsbD 2 = s.cfg.sinkPs ∧ t.csrRdata.getLsbD 3 = s.voltOut.valid ∧
    t.csrRdata.getLsbD 4 = s.socOut.valid ∧ t.csrRdata.getLsbD 5 = s.psrcOut.valid ∧
    (s.psrcOut.valid = true → t.csrRdata.getLsbD 6 = s.psrcOut.value) ∧
    (s.psrcOut.valid = false → t.csrRdata.getLsbD 6 = false) ∧
    t.csrRdata.extractLsb' 7 9 = 0#9) ∧
  (∀ e : State, (csrSinksWord (applyReset e)).extractLsb' 3 13 = 0#13 ∧
    (csrSinksWord (applyReset e)).getLsbD 0 = e.cfg.sinkV ∧
    (csrSinksWord (applyReset e)).getLsbD 1 = e.cfg.sinkSoc ∧
    (csrSinksWord (applyReset e)).getLsbD 2 = e.cfg.sinkPs)

/-! ## The pure functions -/

/-- `IDMATCH` (R109). -/
def Obligations.IdMatchIsTrueForEightValues : Prop :=
  (∀ c : Word, idMatch c = true ↔ c &&& 0xFF1F#16 = 0x971C#16) ∧
  (∀ c : Word, idMatch c = true ↔ ∃ k < 8, c = 0x971C#16 ||| (BitVec.ofNat 16 k <<< 5)) ∧
  (∀ c : Word, idMatch c = true ↔ c ∈ [0x971C#16, 0x973C#16, 0x975C#16, 0x977C#16, 0x979C#16,
    0x97BC#16, 0x97DC#16, 0x97FC#16]) ∧
  (∀ c : Word, idMatch c = true ↔ hiByte c = 0x97#8 ∧ c.extractLsb' 0 5 = 0b11100#5) ∧
  idMatch 0x979C#16 = true ∧ idMatch 0x1234#16 = false ∧ 0x1234#16 &&& 0xFF1F#16 = 0x1214#16

/-- `VDEC` (R123). -/
def Obligations.VoltageIsLinear : Prop :=
  (∀ raw : Word, (vdec raw).val = 5 / 4 * ((raw.extractLsb' 4 12).toNat : Rat) / 1000 ∧
    (vdec raw).val = ((raw.extractLsb' 4 12).toNat : Rat) / 800 ∧
    voltField raw = (raw.extractLsb' 4 12).setWidth 16) ∧
  (∀ a b : Word, a.extractLsb' 4 12 = b.extractLsb' 4 12 → vdec a = vdec b) ∧
  (∀ a b : Word, (a.extractLsb' 4 12).toNat ≤ (b.extractLsb' 4 12).toNat ↔ (vdec a).val ≤ (vdec b).val) ∧
  (∀ a b : Word, (b.extractLsb' 4 12).toNat = (a.extractLsb' 4 12).toNat + 1 →
    (vdec b).val = (vdec a).val + 1 / 800) ∧
  (∀ raw : Word, 0 ≤ (vdec raw).val ∧ (vdec raw).val ≤ 511875 / 100000 ∧
    ((vdec raw).val = 0 ↔ raw.toNat ≤ 0x000F) ∧
    ((vdec raw).val = 511875 / 100000 ↔ 0xFFF0 ≤ raw.toNat)) ∧
  (vdec 0x0D00#16).val = 26 / 100

/-- `SOCDEC` (R126): the decimal constant, not 1/256, and no clamping. -/
def Obligations.SocIsLinearWithTheDecimalConstant : Prop :=
  (∀ raw : Word, (socdec raw).val =
    ((raw.extractLsb' 8 8).toNat : Rat) + 3906 / 1000000 * ((raw.extractLsb' 0 8).toNat : Rat)) ∧
  (∀ raw : Word, ((raw.extractLsb' 8 8).toNat : Rat) + ((raw.extractLsb' 0 8).toNat : Rat) / 256 -
      (socdec raw).val = ((raw.extractLsb' 0 8).toNat : Rat) * (25 / 100000000) ∧
    ((raw.extractLsb' 0 8).toNat : Rat) * (25 / 100000000) ≤ 6375 / 100000000) ∧
  (∀ raw : Word, 0 ≤ (socdec raw).val ∧ (socdec raw).val ≤ 25599603 / 100000) ∧
  (socdec 0xFFFF#16).val = 25599603 / 100000 ∧ (socdec 0x0000#16).val = 0 ∧
  (socdec 0x4D80#16).val = 77499968 / 1000000

/-- `rne32` is the correct rounding: of all finite binary32 words none is nearer, and where another is
as near, the one chosen has an even significand (R15, R134).
That binary32 is IEEE 754's is general knowledge (the spec's G3; log entry 6). -/
def Obligations.RoundingIsNearestTiesToEven : Prop :=
  ∀ q : ExactQ, 0 < q.den → q.num < 256 * q.den →
    f32Finite (rne32 q) ∧ (rne32 q).getLsbD 31 = false ∧
    ∀ w : BitVec 32, f32Finite w →
      |f32Value (rne32 q) - q.val| ≤ |f32Value w - q.val| ∧
      (|f32Value (rne32 q) - q.val| = |f32Value w - q.val| → f32Value w ≠ f32Value (rne32 q) →
        (rne32 q).getLsbD 0 = false)

/-- Every published word is `+0` or a normal number, and it is `0x00000000` exactly when the value is
zero (R135, R89). -/
def Obligations.PublishedWordsAreZeroOrNormal : Prop :=
  ∀ raw : Word,
    (voltWord raw = 0x00000000#32 ↔ (vdec raw).val = 0) ∧
    (socWord raw = 0x00000000#32 ↔ (socdec raw).val = 0) ∧
    (voltWord raw ≠ 0#32 → 1 ≤ f32Exp (voltWord raw) ∧ f32Exp (voltWord raw) ≤ 254) ∧
    (socWord raw ≠ 0#32 → 1 ≤ f32Exp (socWord raw) ∧ f32Exp (socWord raw) ≤ 254) ∧
    (voltWord raw).getLsbD 31 = false ∧ (socWord raw).getLsbD 31 = false

/-! ## Rules of the whole machine -/

/-- The lifecycle's only transitions (R21, R186): `UNINIT` to `VALIDATING`, `VALIDATING` to `READY` or
`FAILED`, and reset. -/
def Obligations.LifecycleTransitions : Prop :=
  ∀ s t : State, Inv s → step s = .next t →
    t.lc = s.lc ∨ (s.lc = .uninit ∧ t.lc = .validating ∧ t.trace = s.trace ++ [.cmd .setup]) ∨
      (s.lc = .validating ∧ s.seq = .setupWb ∧ t.lc = .ready) ∨
      (s.lc = .validating ∧ t.lc = .failed) ∨ (s.resetAsserted ∧ t.lc = .uninit)

/-- A `FAILED` block is silent until reset: no request, no publish, no sample, no status, and none of its
registers changes (R111, R121, R146, R166, R171). -/
def Obligations.FailedBlockIsSilentUntilReset : Prop :=
  ∀ s t : State, Inv s → s.lc = .failed → ¬ s.resetAsserted → step s = .next t →
    t.lc = .failed ∧ t.stKind = s.stKind ∧ t.stMsg = s.stMsg ∧ t.voltOut = s.voltOut ∧
    t.socOut = s.socOut ∧ t.psrcOut = s.psrcOut ∧ t.asleep = s.asleep ∧ t.pinCfg = s.pinCfg ∧
    t.seq = .idle ∧ t.tReq = none ∧ t.outstanding = none ∧
    ∀ e ∈ t.trace.drop s.trace.length, (∃ op, e = .cmd op) ∨ (∃ c, e = .done c)

/-- Who writes each flag (R35), and what is written: nothing changes on a step that the table does not
list. -/
def Obligations.FlagsChangeOnlyAsListed : Prop :=
  ∀ s t : State, Inv s → ¬ s.resetAsserted → step s = .next t →
    (t.asleep ≠ s.asleep → s.seq = .slpWr ∧ s.outstanding ≠ none ∧ t.asleep = true) ∧
    (t.pinCfg ≠ s.pinCfg → s.seq = .setupWb ∧ s.outstanding ≠ none ∧ t.pinCfg = true) ∧
    (t.voltOut ≠ s.voltOut → s.seq = .updV ∧ s.outstanding ≠ none ∧
      ∃ raw, t.voltOut = ⟨true, voltWord raw⟩) ∧
    (t.socOut ≠ s.socOut → s.seq = .updSoc ∧ s.outstanding ≠ none ∧
      ∃ raw, t.socOut = ⟨true, socWord raw⟩) ∧
    (t.psrcOut ≠ s.psrcOut → s.seq = .updPs ∧ t.psrcOut = ⟨true, s.dinLevel⟩) ∧
    ((t.stKind, t.stMsg) ≠ (s.stKind, s.stMsg) → s.outstanding ≠ none ∧
      ((t.stKind = .error ∧ (s.seq = .setupRd ∨ s.seq = .setupWb)) ∨
        (t.stKind = .warning ∧ (s.seq = .setupSel ∨ s.seq = .setupRd ∨ s.seq = .updV ∨
          s.seq = .updSoc ∨ s.seq = .slpWr)) ∨
        (t.stKind = .ok ∧ s.stKind = .warning ∧ (s.seq = .updV ∨ s.seq = .updSoc))))

/-- The parameters never change in a run (R36, R11). -/
def Obligations.ParametersNeverChange : Prop :=
  ∀ s t : State, step s = .next t → t.cfg = s.cfg

/-- A quantity whose sink is absent is never read, sampled, held or published (R132, R122, R125, R130). -/
def Obligations.AbsentSinkIsNeverServed : Prop :=
  ∀ s t : State, Inv s → ¬ s.resetAsserted → step s = .next t →
    (s.cfg.sinkV = false → t.voltOut = s.voltOut ∧
      ∀ e ∈ t.trace.drop s.trace.length, (∀ dev, e ≠ .tReq dev reqRdVcell) ∧ ∀ w, e ≠ .pub (.v w)) ∧
    (s.cfg.sinkSoc = false → t.socOut = s.socOut ∧
      ∀ e ∈ t.trace.drop s.trace.length, (∀ dev, e ≠ .tReq dev reqRdSoc) ∧ ∀ w, e ≠ .pub (.soc w)) ∧
    (s.cfg.sinkPs = false → t.psrcOut = s.psrcOut ∧
      ∀ e ∈ t.trace.drop s.trace.length, (∀ b, e ≠ .din b) ∧ ∀ b, e ≠ .pub (.ps b))

/-- A strobe is 1 after a step exactly when that step published to its sink, and the data port then
shows what was published.
R59 says that a publish is one pulse with the data port driven from the holding register; that the pulse
is 1 in the state after the publishing step and 0 from the next step on is the model's choice (log
entry 11). -/
def Obligations.StrobesAreThePublishes : Prop :=
  ∀ s t : State, step s = .next t →
    (∀ w, .pub (.v w) ∈ t.trace.drop s.trace.length ↔ t.vStrobe = true ∧ t.vPubData = w) ∧
    (∀ w, .pub (.soc w) ∈ t.trace.drop s.trace.length ↔ t.socStrobe = true ∧ t.socPubData = w) ∧
    (∀ b, .pub (.ps b) ∈ t.trace.drop s.trace.length ↔ t.psStrobe = true ∧ t.psPubData = b)

/-- No step depends on `ASLEEP` (R23, R121, R146): two states that differ in it alone step alike, but for
`ASLEEP` itself. -/
def Obligations.AsleepGatesNothing : Prop :=
  ∀ (s : State) (b : Bool),
    mapNext (fun t => { t with asleep := false }) (step { s with asleep := b }) =
      mapNext (fun t => { t with asleep := false }) (step s)

/-- No step depends on the polarity parameter or the pin's name (R12): changing them changes nothing
but themselves. -/
def Obligations.PolarityChangesNoStep : Prop :=
  ∀ (s : State) (b : Bool) (p : Nat),
    step { s with cfg := { s.cfg with trueMeansBattery := b, pin := p } } =
      mapNext (fun t => { t with cfg := { t.cfg with trueMeansBattery := b, pin := p } }) (step s)

/-! ## Whole commands -/

/-- SETUP from acceptance to completion, for every three answers (R100, R101 to R107): the requests
made, the outcome, and nothing more after a failing step.
`n` counts transfers. -/
def Obligations.SetupCommand : Prop :=
  ∀ (s : State) (a b c : BitVec 17) (rest : List PortInput), s.Waiting → s.lc = .uninit →
    s.inputs = .cmd 0b01#2 :: .answer a :: .answer b :: .answer c :: rest →
    ∃ n t evs, Host.Core.run Sys2Proof.core n s = .next t ∧ t.seq = .idle ∧ t.rsp = some 0b00#2 ∧
      t.trace = s.trace ++ evs ∧
      (trspOk a = false →
        t.lc = .failed ∧ t.stKind = .warning ∧ t.stMsg = .none ∧ t.pinCfg = s.pinCfg ∧
        evs = [.cmd .setup, .tReq s.cfg.devAddr reqSelConfig, .tRsp .err, .status .warning .none]) ∧
      (trspOk a = true → trspOk b = false →
        t.lc = .failed ∧ t.stKind = .warning ∧ t.stMsg = .none ∧ t.pinCfg = s.pinCfg ∧
        evs = [.cmd .setup, .tReq s.cfg.devAddr reqSelConfig, .tRsp .ok, .tReq s.cfg.devAddr reqRd2,
          .tRsp .err, .status .warning .none]) ∧
      (trspOk a = true → trspOk b = true → idMatch (trspData b) = false →
        t.lc = .failed ∧ t.stKind = .error ∧ t.stMsg = .unrecognised ∧ t.pinCfg = s.pinCfg ∧
        evs = [.cmd .setup, .tReq s.cfg.devAddr reqSelConfig, .tRsp .ok, .tReq s.cfg.devAddr reqRd2,
          .tRsp (.okBytes [hiByte (trspData b), loByte (trspData b)]),
          .status .error .unrecognised]) ∧
      (trspOk a = true → trspOk b = true → idMatch (trspData b) = true → trspOk c = false →
        t.lc = .failed ∧ t.stKind = .error ∧ t.stMsg = .sleepResetFailed ∧ t.pinCfg = s.pinCfg ∧
        evs = [.cmd .setup, .tReq s.cfg.devAddr reqSelConfig, .tRsp .ok, .tReq s.cfg.devAddr reqRd2,
          .tRsp (.okBytes [hiByte (trspData b), loByte (trspData b)]),
          .tReq s.cfg.devAddr reqWbConfig, .tRsp .err, .status .error .sleepResetFailed]) ∧
      (trspOk a = true → trspOk b = true → idMatch (trspData b) = true → trspOk c = true →
        t.lc = .ready ∧ t.stKind = s.stKind ∧ t.stMsg = s.stMsg ∧ t.pinCfg = true ∧ t.asleep = false ∧
        evs = [.cmd .setup, .tReq s.cfg.devAddr reqSelConfig, .tRsp .ok, .tReq s.cfg.devAddr reqRd2,
          .tRsp (.okBytes [hiByte (trspData b), loByte (trspData b)]),
          .tReq s.cfg.devAddr reqWbConfig, .tRsp .ok, .pinCfg])

/-- R136: the status after a legal UPDATE in `READY`, for every combination of present sinks and
answers; the power-source reading never matters, and `LC`, `ASLEEP`, `PIN_CFG` stay. -/
def Obligations.StatusAfterUpdate : Prop :=
  ∀ (s : State) (a b : BitVec 17), Inv s → s.Waiting → s.lc = .ready →
    s.inputs = .cmd 0b10#2 :: ((if s.cfg.sinkV then [.answer a] else []) ++
      (if s.cfg.sinkSoc then [.answer b] else [])) →
    ∃ n t, Host.Core.run Sys2Proof.core n s = .next t ∧ t.seq = .idle ∧ t.rsp = some 0b00#2 ∧
      t.lc = s.lc ∧ t.asleep = s.asleep ∧ t.pinCfg = s.pinCfg ∧
      (s.cfg.sinkV = true → s.cfg.sinkSoc = true →
        (trspOk a = true → trspOk b = true → (t.stKind, t.stMsg) = (.ok, .none)) ∧
        (trspOk a = true → trspOk b = false → (t.stKind, t.stMsg) = (.warning, .soc)) ∧
        (trspOk a = false → trspOk b = true → (t.stKind, t.stMsg) = (.ok, .none)) ∧
        (trspOk a = false → trspOk b = false → (t.stKind, t.stMsg) = (.warning, .soc))) ∧
      (s.cfg.sinkV = true → s.cfg.sinkSoc = false →
        (trspOk a = true → (t.stKind, t.stMsg) = (.ok, .none)) ∧
        (trspOk a = false → (t.stKind, t.stMsg) = (.warning, .vcell))) ∧
      (s.cfg.sinkV = false → s.cfg.sinkSoc = true →
        (trspOk b = true → (t.stKind, t.stMsg) = (.ok, .none)) ∧
        (trspOk b = false → (t.stKind, t.stMsg) = (.warning, .soc))) ∧
      (s.cfg.sinkV = false → s.cfg.sinkSoc = false →
        (t.stKind, t.stMsg) = (s.stKind, s.stMsg))

/-- Every running command ends, with the bus released and one completion, if the transport takes its
requests and answers them (R190, R204, R170): at most six transfers, three answers. -/
def Obligations.CommandEndsIfTheTransportAnswers : Prop :=
  ∀ (s : State) (a b c : BitVec 17) (rest : List PortInput), Inv s → s.seq ≠ .idle → s.tReady = true →
    s.inputs = .answer a :: .answer b :: .answer c :: rest →
    ∃ n ≤ 6, ∃ t, Host.Core.run Sys2Proof.core n s = .next t ∧ t.seq = .idle ∧
      t.rsp = some 0b00#2 ∧ t.tReq = none ∧ t.outstanding = none ∧ t.lc ≠ .validating ∧
      ∀ e ∈ t.trace.drop s.trace.length, ∀ code, e ≠ .done code
end

