-- ==== Sys2Proof/Laws/State.lean ====
section
/-! SUPPORT. One lemma per field per basic update of `State`, each true by `rfl`. -/

namespace Sys2Proof.Machine

/-! `record`. -/

@[simp] theorem record_lc (e : Event) (s : State) : (record e s).lc = s.lc := rfl
@[simp] theorem record_asleep (e : Event) (s : State) : (record e s).asleep = s.asleep := rfl
@[simp] theorem record_pinCfg (e : Event) (s : State) : (record e s).pinCfg = s.pinCfg := rfl
@[simp] theorem record_stKind (e : Event) (s : State) : (record e s).stKind = s.stKind := rfl
@[simp] theorem record_stMsg (e : Event) (s : State) : (record e s).stMsg = s.stMsg := rfl
@[simp] theorem record_voltOut (e : Event) (s : State) : (record e s).voltOut = s.voltOut := rfl
@[simp] theorem record_socOut (e : Event) (s : State) : (record e s).socOut = s.socOut := rfl
@[simp] theorem record_psrcOut (e : Event) (s : State) : (record e s).psrcOut = s.psrcOut := rfl
@[simp] theorem record_seq (e : Event) (s : State) : (record e s).seq = s.seq := rfl
@[simp] theorem record_buf (e : Event) (s : State) : (record e s).buf = s.buf := rfl
@[simp] theorem record_tReq (e : Event) (s : State) : (record e s).tReq = s.tReq := rfl
@[simp] theorem record_outstanding (e : Event) (s : State) : (record e s).outstanding = s.outstanding := rfl
@[simp] theorem record_rsp (e : Event) (s : State) : (record e s).rsp = s.rsp := rfl
@[simp] theorem record_vStrobe (e : Event) (s : State) : (record e s).vStrobe = s.vStrobe := rfl
@[simp] theorem record_socStrobe (e : Event) (s : State) : (record e s).socStrobe = s.socStrobe := rfl
@[simp] theorem record_psStrobe (e : Event) (s : State) : (record e s).psStrobe = s.psStrobe := rfl
@[simp] theorem record_cfg (e : Event) (s : State) : (record e s).cfg = s.cfg := rfl
@[simp] theorem record_hostCmds (e : Event) (s : State) : (record e s).hostCmds = s.hostCmds := rfl
@[simp] theorem record_csrSel (e : Event) (s : State) : (record e s).csrSel = s.csrSel := rfl
@[simp] theorem record_tReady (e : Event) (s : State) : (record e s).tReady = s.tReady := rfl
@[simp] theorem record_dinLevel (e : Event) (s : State) : (record e s).dinLevel = s.dinLevel := rfl
@[simp] theorem record_inputs (e : Event) (s : State) : (record e s).inputs = s.inputs := rfl
@[simp] theorem record_freeCount (e : Event) (s : State) : (record e s).freeCount = s.freeCount := rfl
@[simp] theorem record_trace (e : Event) (s : State) : (record e s).trace = s.trace ++ [e] := rfl

/-! `writeStatus`. -/

@[simp] theorem writeStatus_lc (k : StKind) (m : StMsg) (s : State) : (writeStatus k m s).lc = s.lc := rfl
@[simp] theorem writeStatus_asleep (k : StKind) (m : StMsg) (s : State) : (writeStatus k m s).asleep = s.asleep := rfl
@[simp] theorem writeStatus_pinCfg (k : StKind) (m : StMsg) (s : State) : (writeStatus k m s).pinCfg = s.pinCfg := rfl
@[simp] theorem writeStatus_stKind (k : StKind) (m : StMsg) (s : State) : (writeStatus k m s).stKind = k := rfl
@[simp] theorem writeStatus_stMsg (k : StKind) (m : StMsg) (s : State) : (writeStatus k m s).stMsg = m := rfl
@[simp] theorem writeStatus_voltOut (k : StKind) (m : StMsg) (s : State) : (writeStatus k m s).voltOut = s.voltOut := rfl
@[simp] theorem writeStatus_socOut (k : StKind) (m : StMsg) (s : State) : (writeStatus k m s).socOut = s.socOut := rfl
@[simp] theorem writeStatus_psrcOut (k : StKind) (m : StMsg) (s : State) : (writeStatus k m s).psrcOut = s.psrcOut := rfl
@[simp] theorem writeStatus_seq (k : StKind) (m : StMsg) (s : State) : (writeStatus k m s).seq = s.seq := rfl
@[simp] theorem writeStatus_buf (k : StKind) (m : StMsg) (s : State) : (writeStatus k m s).buf = s.buf := rfl
@[simp] theorem writeStatus_tReq (k : StKind) (m : StMsg) (s : State) : (writeStatus k m s).tReq = s.tReq := rfl
@[simp] theorem writeStatus_outstanding (k : StKind) (m : StMsg) (s : State) : (writeStatus k m s).outstanding = s.outstanding := rfl
@[simp] theorem writeStatus_rsp (k : StKind) (m : StMsg) (s : State) : (writeStatus k m s).rsp = s.rsp := rfl
@[simp] theorem writeStatus_vStrobe (k : StKind) (m : StMsg) (s : State) : (writeStatus k m s).vStrobe = s.vStrobe := rfl
@[simp] theorem writeStatus_socStrobe (k : StKind) (m : StMsg) (s : State) : (writeStatus k m s).socStrobe = s.socStrobe := rfl
@[simp] theorem writeStatus_psStrobe (k : StKind) (m : StMsg) (s : State) : (writeStatus k m s).psStrobe = s.psStrobe := rfl
@[simp] theorem writeStatus_cfg (k : StKind) (m : StMsg) (s : State) : (writeStatus k m s).cfg = s.cfg := rfl
@[simp] theorem writeStatus_hostCmds (k : StKind) (m : StMsg) (s : State) : (writeStatus k m s).hostCmds = s.hostCmds := rfl
@[simp] theorem writeStatus_csrSel (k : StKind) (m : StMsg) (s : State) : (writeStatus k m s).csrSel = s.csrSel := rfl
@[simp] theorem writeStatus_tReady (k : StKind) (m : StMsg) (s : State) : (writeStatus k m s).tReady = s.tReady := rfl
@[simp] theorem writeStatus_dinLevel (k : StKind) (m : StMsg) (s : State) : (writeStatus k m s).dinLevel = s.dinLevel := rfl
@[simp] theorem writeStatus_inputs (k : StKind) (m : StMsg) (s : State) : (writeStatus k m s).inputs = s.inputs := rfl
@[simp] theorem writeStatus_freeCount (k : StKind) (m : StMsg) (s : State) : (writeStatus k m s).freeCount = s.freeCount := rfl
@[simp] theorem writeStatus_trace (k : StKind) (m : StMsg) (s : State) : (writeStatus k m s).trace = s.trace ++ [.status k m] := rfl

/-! `offer`. -/

@[simp] theorem offer_lc (w : BitVec 28) (s : State) : (offer w s).lc = s.lc := rfl
@[simp] theorem offer_asleep (w : BitVec 28) (s : State) : (offer w s).asleep = s.asleep := rfl
@[simp] theorem offer_pinCfg (w : BitVec 28) (s : State) : (offer w s).pinCfg = s.pinCfg := rfl
@[simp] theorem offer_stKind (w : BitVec 28) (s : State) : (offer w s).stKind = s.stKind := rfl
@[simp] theorem offer_stMsg (w : BitVec 28) (s : State) : (offer w s).stMsg = s.stMsg := rfl
@[simp] theorem offer_voltOut (w : BitVec 28) (s : State) : (offer w s).voltOut = s.voltOut := rfl
@[simp] theorem offer_socOut (w : BitVec 28) (s : State) : (offer w s).socOut = s.socOut := rfl
@[simp] theorem offer_psrcOut (w : BitVec 28) (s : State) : (offer w s).psrcOut = s.psrcOut := rfl
@[simp] theorem offer_seq (w : BitVec 28) (s : State) : (offer w s).seq = s.seq := rfl
@[simp] theorem offer_buf (w : BitVec 28) (s : State) : (offer w s).buf = s.buf := rfl
@[simp] theorem offer_tReq (w : BitVec 28) (s : State) : (offer w s).tReq = some w := rfl
@[simp] theorem offer_outstanding (w : BitVec 28) (s : State) : (offer w s).outstanding = s.outstanding := rfl
@[simp] theorem offer_rsp (w : BitVec 28) (s : State) : (offer w s).rsp = s.rsp := rfl
@[simp] theorem offer_vStrobe (w : BitVec 28) (s : State) : (offer w s).vStrobe = s.vStrobe := rfl
@[simp] theorem offer_socStrobe (w : BitVec 28) (s : State) : (offer w s).socStrobe = s.socStrobe := rfl
@[simp] theorem offer_psStrobe (w : BitVec 28) (s : State) : (offer w s).psStrobe = s.psStrobe := rfl
@[simp] theorem offer_cfg (w : BitVec 28) (s : State) : (offer w s).cfg = s.cfg := rfl
@[simp] theorem offer_hostCmds (w : BitVec 28) (s : State) : (offer w s).hostCmds = s.hostCmds := rfl
@[simp] theorem offer_csrSel (w : BitVec 28) (s : State) : (offer w s).csrSel = s.csrSel := rfl
@[simp] theorem offer_tReady (w : BitVec 28) (s : State) : (offer w s).tReady = s.tReady := rfl
@[simp] theorem offer_dinLevel (w : BitVec 28) (s : State) : (offer w s).dinLevel = s.dinLevel := rfl
@[simp] theorem offer_inputs (w : BitVec 28) (s : State) : (offer w s).inputs = s.inputs := rfl
@[simp] theorem offer_freeCount (w : BitVec 28) (s : State) : (offer w s).freeCount = s.freeCount := rfl
@[simp] theorem offer_trace (w : BitVec 28) (s : State) : (offer w s).trace = s.trace := rfl

/-! `issue`. -/

@[simp] theorem issue_lc (r : Request) (s : State) : (issue r s).lc = s.lc := rfl
@[simp] theorem issue_asleep (r : Request) (s : State) : (issue r s).asleep = s.asleep := rfl
@[simp] theorem issue_pinCfg (r : Request) (s : State) : (issue r s).pinCfg = s.pinCfg := rfl
@[simp] theorem issue_stKind (r : Request) (s : State) : (issue r s).stKind = s.stKind := rfl
@[simp] theorem issue_stMsg (r : Request) (s : State) : (issue r s).stMsg = s.stMsg := rfl
@[simp] theorem issue_voltOut (r : Request) (s : State) : (issue r s).voltOut = s.voltOut := rfl
@[simp] theorem issue_socOut (r : Request) (s : State) : (issue r s).socOut = s.socOut := rfl
@[simp] theorem issue_psrcOut (r : Request) (s : State) : (issue r s).psrcOut = s.psrcOut := rfl
@[simp] theorem issue_seq (r : Request) (s : State) : (issue r s).seq = s.seq := rfl
@[simp] theorem issue_buf (r : Request) (s : State) : (issue r s).buf = s.buf := rfl
@[simp] theorem issue_tReq (r : Request) (s : State) : (issue r s).tReq = none := rfl
@[simp] theorem issue_outstanding (r : Request) (s : State) : (issue r s).outstanding = some r := rfl
@[simp] theorem issue_rsp (r : Request) (s : State) : (issue r s).rsp = s.rsp := rfl
@[simp] theorem issue_vStrobe (r : Request) (s : State) : (issue r s).vStrobe = s.vStrobe := rfl
@[simp] theorem issue_socStrobe (r : Request) (s : State) : (issue r s).socStrobe = s.socStrobe := rfl
@[simp] theorem issue_psStrobe (r : Request) (s : State) : (issue r s).psStrobe = s.psStrobe := rfl
@[simp] theorem issue_cfg (r : Request) (s : State) : (issue r s).cfg = s.cfg := rfl
@[simp] theorem issue_hostCmds (r : Request) (s : State) : (issue r s).hostCmds = s.hostCmds := rfl
@[simp] theorem issue_csrSel (r : Request) (s : State) : (issue r s).csrSel = s.csrSel := rfl
@[simp] theorem issue_tReady (r : Request) (s : State) : (issue r s).tReady = s.tReady := rfl
@[simp] theorem issue_dinLevel (r : Request) (s : State) : (issue r s).dinLevel = s.dinLevel := rfl
@[simp] theorem issue_inputs (r : Request) (s : State) : (issue r s).inputs = s.inputs := rfl
@[simp] theorem issue_freeCount (r : Request) (s : State) : (issue r s).freeCount = s.freeCount := rfl
@[simp] theorem issue_trace (r : Request) (s : State) : (issue r s).trace = s.trace ++ [.tReq s.cfg.devAddr r] := rfl

/-! `respond`. -/

@[simp] theorem respond_lc (c : Completion) (s : State) : (respond c s).lc = s.lc := rfl
@[simp] theorem respond_asleep (c : Completion) (s : State) : (respond c s).asleep = s.asleep := rfl
@[simp] theorem respond_pinCfg (c : Completion) (s : State) : (respond c s).pinCfg = s.pinCfg := rfl
@[simp] theorem respond_stKind (c : Completion) (s : State) : (respond c s).stKind = s.stKind := rfl
@[simp] theorem respond_stMsg (c : Completion) (s : State) : (respond c s).stMsg = s.stMsg := rfl
@[simp] theorem respond_voltOut (c : Completion) (s : State) : (respond c s).voltOut = s.voltOut := rfl
@[simp] theorem respond_socOut (c : Completion) (s : State) : (respond c s).socOut = s.socOut := rfl
@[simp] theorem respond_psrcOut (c : Completion) (s : State) : (respond c s).psrcOut = s.psrcOut := rfl
@[simp] theorem respond_seq (c : Completion) (s : State) : (respond c s).seq = s.seq := rfl
@[simp] theorem respond_buf (c : Completion) (s : State) : (respond c s).buf = s.buf := rfl
@[simp] theorem respond_tReq (c : Completion) (s : State) : (respond c s).tReq = s.tReq := rfl
@[simp] theorem respond_outstanding (c : Completion) (s : State) : (respond c s).outstanding = s.outstanding := rfl
@[simp] theorem respond_rsp (c : Completion) (s : State) : (respond c s).rsp = some c.code := rfl
@[simp] theorem respond_vStrobe (c : Completion) (s : State) : (respond c s).vStrobe = s.vStrobe := rfl
@[simp] theorem respond_socStrobe (c : Completion) (s : State) : (respond c s).socStrobe = s.socStrobe := rfl
@[simp] theorem respond_psStrobe (c : Completion) (s : State) : (respond c s).psStrobe = s.psStrobe := rfl
@[simp] theorem respond_cfg (c : Completion) (s : State) : (respond c s).cfg = s.cfg := rfl
@[simp] theorem respond_hostCmds (c : Completion) (s : State) : (respond c s).hostCmds = s.hostCmds := rfl
@[simp] theorem respond_csrSel (c : Completion) (s : State) : (respond c s).csrSel = s.csrSel := rfl
@[simp] theorem respond_tReady (c : Completion) (s : State) : (respond c s).tReady = s.tReady := rfl
@[simp] theorem respond_dinLevel (c : Completion) (s : State) : (respond c s).dinLevel = s.dinLevel := rfl
@[simp] theorem respond_inputs (c : Completion) (s : State) : (respond c s).inputs = s.inputs := rfl
@[simp] theorem respond_freeCount (c : Completion) (s : State) : (respond c s).freeCount = s.freeCount := rfl
@[simp] theorem respond_trace (c : Completion) (s : State) : (respond c s).trace = s.trace := rfl

/-! `releaseBuf`. -/

@[simp] theorem releaseBuf_lc (s : State) : (releaseBuf s).lc = s.lc := rfl
@[simp] theorem releaseBuf_asleep (s : State) : (releaseBuf s).asleep = s.asleep := rfl
@[simp] theorem releaseBuf_pinCfg (s : State) : (releaseBuf s).pinCfg = s.pinCfg := rfl
@[simp] theorem releaseBuf_stKind (s : State) : (releaseBuf s).stKind = s.stKind := rfl
@[simp] theorem releaseBuf_stMsg (s : State) : (releaseBuf s).stMsg = s.stMsg := rfl
@[simp] theorem releaseBuf_voltOut (s : State) : (releaseBuf s).voltOut = s.voltOut := rfl
@[simp] theorem releaseBuf_socOut (s : State) : (releaseBuf s).socOut = s.socOut := rfl
@[simp] theorem releaseBuf_psrcOut (s : State) : (releaseBuf s).psrcOut = s.psrcOut := rfl
@[simp] theorem releaseBuf_seq (s : State) : (releaseBuf s).seq = s.seq := rfl
@[simp] theorem releaseBuf_buf (s : State) : (releaseBuf s).buf = Config.freeBuf s.freeCount := rfl
@[simp] theorem releaseBuf_tReq (s : State) : (releaseBuf s).tReq = s.tReq := rfl
@[simp] theorem releaseBuf_outstanding (s : State) : (releaseBuf s).outstanding = s.outstanding := rfl
@[simp] theorem releaseBuf_rsp (s : State) : (releaseBuf s).rsp = s.rsp := rfl
@[simp] theorem releaseBuf_vStrobe (s : State) : (releaseBuf s).vStrobe = s.vStrobe := rfl
@[simp] theorem releaseBuf_socStrobe (s : State) : (releaseBuf s).socStrobe = s.socStrobe := rfl
@[simp] theorem releaseBuf_psStrobe (s : State) : (releaseBuf s).psStrobe = s.psStrobe := rfl
@[simp] theorem releaseBuf_cfg (s : State) : (releaseBuf s).cfg = s.cfg := rfl
@[simp] theorem releaseBuf_hostCmds (s : State) : (releaseBuf s).hostCmds = s.hostCmds := rfl
@[simp] theorem releaseBuf_csrSel (s : State) : (releaseBuf s).csrSel = s.csrSel := rfl
@[simp] theorem releaseBuf_tReady (s : State) : (releaseBuf s).tReady = s.tReady := rfl
@[simp] theorem releaseBuf_dinLevel (s : State) : (releaseBuf s).dinLevel = s.dinLevel := rfl
@[simp] theorem releaseBuf_inputs (s : State) : (releaseBuf s).inputs = s.inputs := rfl
@[simp] theorem releaseBuf_freeCount (s : State) : (releaseBuf s).freeCount = s.freeCount + 1 := rfl
@[simp] theorem releaseBuf_trace (s : State) : (releaseBuf s).trace = s.trace := rfl

/-! `publishVolt`. -/

@[simp] theorem publishVolt_lc (w : BitVec 32) (s : State) : (publishVolt w s).lc = s.lc := rfl
@[simp] theorem publishVolt_asleep (w : BitVec 32) (s : State) : (publishVolt w s).asleep = s.asleep := rfl
@[simp] theorem publishVolt_pinCfg (w : BitVec 32) (s : State) : (publishVolt w s).pinCfg = s.pinCfg := rfl
@[simp] theorem publishVolt_stKind (w : BitVec 32) (s : State) : (publishVolt w s).stKind = s.stKind := rfl
@[simp] theorem publishVolt_stMsg (w : BitVec 32) (s : State) : (publishVolt w s).stMsg = s.stMsg := rfl
@[simp] theorem publishVolt_voltOut (w : BitVec 32) (s : State) : (publishVolt w s).voltOut = ⟨true, w⟩ := rfl
@[simp] theorem publishVolt_socOut (w : BitVec 32) (s : State) : (publishVolt w s).socOut = s.socOut := rfl
@[simp] theorem publishVolt_psrcOut (w : BitVec 32) (s : State) : (publishVolt w s).psrcOut = s.psrcOut := rfl
@[simp] theorem publishVolt_seq (w : BitVec 32) (s : State) : (publishVolt w s).seq = s.seq := rfl
@[simp] theorem publishVolt_buf (w : BitVec 32) (s : State) : (publishVolt w s).buf = s.buf := rfl
@[simp] theorem publishVolt_tReq (w : BitVec 32) (s : State) : (publishVolt w s).tReq = s.tReq := rfl
@[simp] theorem publishVolt_outstanding (w : BitVec 32) (s : State) : (publishVolt w s).outstanding = s.outstanding := rfl
@[simp] theorem publishVolt_rsp (w : BitVec 32) (s : State) : (publishVolt w s).rsp = s.rsp := rfl
@[simp] theorem publishVolt_vStrobe (w : BitVec 32) (s : State) : (publishVolt w s).vStrobe = true := rfl
@[simp] theorem publishVolt_socStrobe (w : BitVec 32) (s : State) : (publishVolt w s).socStrobe = s.socStrobe := rfl
@[simp] theorem publishVolt_psStrobe (w : BitVec 32) (s : State) : (publishVolt w s).psStrobe = s.psStrobe := rfl
@[simp] theorem publishVolt_cfg (w : BitVec 32) (s : State) : (publishVolt w s).cfg = s.cfg := rfl
@[simp] theorem publishVolt_hostCmds (w : BitVec 32) (s : State) : (publishVolt w s).hostCmds = s.hostCmds := rfl
@[simp] theorem publishVolt_csrSel (w : BitVec 32) (s : State) : (publishVolt w s).csrSel = s.csrSel := rfl
@[simp] theorem publishVolt_tReady (w : BitVec 32) (s : State) : (publishVolt w s).tReady = s.tReady := rfl
@[simp] theorem publishVolt_dinLevel (w : BitVec 32) (s : State) : (publishVolt w s).dinLevel = s.dinLevel := rfl
@[simp] theorem publishVolt_inputs (w : BitVec 32) (s : State) : (publishVolt w s).inputs = s.inputs := rfl
@[simp] theorem publishVolt_freeCount (w : BitVec 32) (s : State) : (publishVolt w s).freeCount = s.freeCount := rfl
@[simp] theorem publishVolt_trace (w : BitVec 32) (s : State) : (publishVolt w s).trace = s.trace ++ [.pub (.v w)] := rfl

/-! `publishSoc`. -/

@[simp] theorem publishSoc_lc (w : BitVec 32) (s : State) : (publishSoc w s).lc = s.lc := rfl
@[simp] theorem publishSoc_asleep (w : BitVec 32) (s : State) : (publishSoc w s).asleep = s.asleep := rfl
@[simp] theorem publishSoc_pinCfg (w : BitVec 32) (s : State) : (publishSoc w s).pinCfg = s.pinCfg := rfl
@[simp] theorem publishSoc_stKind (w : BitVec 32) (s : State) : (publishSoc w s).stKind = s.stKind := rfl
@[simp] theorem publishSoc_stMsg (w : BitVec 32) (s : State) : (publishSoc w s).stMsg = s.stMsg := rfl
@[simp] theorem publishSoc_voltOut (w : BitVec 32) (s : State) : (publishSoc w s).voltOut = s.voltOut := rfl
@[simp] theorem publishSoc_socOut (w : BitVec 32) (s : State) : (publishSoc w s).socOut = ⟨true, w⟩ := rfl
@[simp] theorem publishSoc_psrcOut (w : BitVec 32) (s : State) : (publishSoc w s).psrcOut = s.psrcOut := rfl
@[simp] theorem publishSoc_seq (w : BitVec 32) (s : State) : (publishSoc w s).seq = s.seq := rfl
@[simp] theorem publishSoc_buf (w : BitVec 32) (s : State) : (publishSoc w s).buf = s.buf := rfl
@[simp] theorem publishSoc_tReq (w : BitVec 32) (s : State) : (publishSoc w s).tReq = s.tReq := rfl
@[simp] theorem publishSoc_outstanding (w : BitVec 32) (s : State) : (publishSoc w s).outstanding = s.outstanding := rfl
@[simp] theorem publishSoc_rsp (w : BitVec 32) (s : State) : (publishSoc w s).rsp = s.rsp := rfl
@[simp] theorem publishSoc_vStrobe (w : BitVec 32) (s : State) : (publishSoc w s).vStrobe = s.vStrobe := rfl
@[simp] theorem publishSoc_socStrobe (w : BitVec 32) (s : State) : (publishSoc w s).socStrobe = true := rfl
@[simp] theorem publishSoc_psStrobe (w : BitVec 32) (s : State) : (publishSoc w s).psStrobe = s.psStrobe := rfl
@[simp] theorem publishSoc_cfg (w : BitVec 32) (s : State) : (publishSoc w s).cfg = s.cfg := rfl
@[simp] theorem publishSoc_hostCmds (w : BitVec 32) (s : State) : (publishSoc w s).hostCmds = s.hostCmds := rfl
@[simp] theorem publishSoc_csrSel (w : BitVec 32) (s : State) : (publishSoc w s).csrSel = s.csrSel := rfl
@[simp] theorem publishSoc_tReady (w : BitVec 32) (s : State) : (publishSoc w s).tReady = s.tReady := rfl
@[simp] theorem publishSoc_dinLevel (w : BitVec 32) (s : State) : (publishSoc w s).dinLevel = s.dinLevel := rfl
@[simp] theorem publishSoc_inputs (w : BitVec 32) (s : State) : (publishSoc w s).inputs = s.inputs := rfl
@[simp] theorem publishSoc_freeCount (w : BitVec 32) (s : State) : (publishSoc w s).freeCount = s.freeCount := rfl
@[simp] theorem publishSoc_trace (w : BitVec 32) (s : State) : (publishSoc w s).trace = s.trace ++ [.pub (.soc w)] := rfl

/-! `publishLevel`. -/

@[simp] theorem publishLevel_lc (b : Bool) (s : State) : (publishLevel b s).lc = s.lc := rfl
@[simp] theorem publishLevel_asleep (b : Bool) (s : State) : (publishLevel b s).asleep = s.asleep := rfl
@[simp] theorem publishLevel_pinCfg (b : Bool) (s : State) : (publishLevel b s).pinCfg = s.pinCfg := rfl
@[simp] theorem publishLevel_stKind (b : Bool) (s : State) : (publishLevel b s).stKind = s.stKind := rfl
@[simp] theorem publishLevel_stMsg (b : Bool) (s : State) : (publishLevel b s).stMsg = s.stMsg := rfl
@[simp] theorem publishLevel_voltOut (b : Bool) (s : State) : (publishLevel b s).voltOut = s.voltOut := rfl
@[simp] theorem publishLevel_socOut (b : Bool) (s : State) : (publishLevel b s).socOut = s.socOut := rfl
@[simp] theorem publishLevel_psrcOut (b : Bool) (s : State) : (publishLevel b s).psrcOut = ⟨true, b⟩ := rfl
@[simp] theorem publishLevel_seq (b : Bool) (s : State) : (publishLevel b s).seq = s.seq := rfl
@[simp] theorem publishLevel_buf (b : Bool) (s : State) : (publishLevel b s).buf = s.buf := rfl
@[simp] theorem publishLevel_tReq (b : Bool) (s : State) : (publishLevel b s).tReq = s.tReq := rfl
@[simp] theorem publishLevel_outstanding (b : Bool) (s : State) : (publishLevel b s).outstanding = s.outstanding := rfl
@[simp] theorem publishLevel_rsp (b : Bool) (s : State) : (publishLevel b s).rsp = s.rsp := rfl
@[simp] theorem publishLevel_vStrobe (b : Bool) (s : State) : (publishLevel b s).vStrobe = s.vStrobe := rfl
@[simp] theorem publishLevel_socStrobe (b : Bool) (s : State) : (publishLevel b s).socStrobe = s.socStrobe := rfl
@[simp] theorem publishLevel_psStrobe (b : Bool) (s : State) : (publishLevel b s).psStrobe = true := rfl
@[simp] theorem publishLevel_cfg (b : Bool) (s : State) : (publishLevel b s).cfg = s.cfg := rfl
@[simp] theorem publishLevel_hostCmds (b : Bool) (s : State) : (publishLevel b s).hostCmds = s.hostCmds := rfl
@[simp] theorem publishLevel_csrSel (b : Bool) (s : State) : (publishLevel b s).csrSel = s.csrSel := rfl
@[simp] theorem publishLevel_tReady (b : Bool) (s : State) : (publishLevel b s).tReady = s.tReady := rfl
@[simp] theorem publishLevel_dinLevel (b : Bool) (s : State) : (publishLevel b s).dinLevel = s.dinLevel := rfl
@[simp] theorem publishLevel_inputs (b : Bool) (s : State) : (publishLevel b s).inputs = s.inputs := rfl
@[simp] theorem publishLevel_freeCount (b : Bool) (s : State) : (publishLevel b s).freeCount = s.freeCount := rfl
@[simp] theorem publishLevel_trace (b : Bool) (s : State) : (publishLevel b s).trace = s.trace ++ [.pub (.ps b)] := rfl

/-! `configurePin`. -/

@[simp] theorem configurePin_lc (s : State) : (configurePin s).lc = s.lc := rfl
@[simp] theorem configurePin_asleep (s : State) : (configurePin s).asleep = s.asleep := rfl
@[simp] theorem configurePin_pinCfg (s : State) : (configurePin s).pinCfg = true := rfl
@[simp] theorem configurePin_stKind (s : State) : (configurePin s).stKind = s.stKind := rfl
@[simp] theorem configurePin_stMsg (s : State) : (configurePin s).stMsg = s.stMsg := rfl
@[simp] theorem configurePin_voltOut (s : State) : (configurePin s).voltOut = s.voltOut := rfl
@[simp] theorem configurePin_socOut (s : State) : (configurePin s).socOut = s.socOut := rfl
@[simp] theorem configurePin_psrcOut (s : State) : (configurePin s).psrcOut = s.psrcOut := rfl
@[simp] theorem configurePin_seq (s : State) : (configurePin s).seq = s.seq := rfl
@[simp] theorem configurePin_buf (s : State) : (configurePin s).buf = s.buf := rfl
@[simp] theorem configurePin_tReq (s : State) : (configurePin s).tReq = s.tReq := rfl
@[simp] theorem configurePin_outstanding (s : State) : (configurePin s).outstanding = s.outstanding := rfl
@[simp] theorem configurePin_rsp (s : State) : (configurePin s).rsp = s.rsp := rfl
@[simp] theorem configurePin_vStrobe (s : State) : (configurePin s).vStrobe = s.vStrobe := rfl
@[simp] theorem configurePin_socStrobe (s : State) : (configurePin s).socStrobe = s.socStrobe := rfl
@[simp] theorem configurePin_psStrobe (s : State) : (configurePin s).psStrobe = s.psStrobe := rfl
@[simp] theorem configurePin_cfg (s : State) : (configurePin s).cfg = s.cfg := rfl
@[simp] theorem configurePin_hostCmds (s : State) : (configurePin s).hostCmds = s.hostCmds := rfl
@[simp] theorem configurePin_csrSel (s : State) : (configurePin s).csrSel = s.csrSel := rfl
@[simp] theorem configurePin_tReady (s : State) : (configurePin s).tReady = s.tReady := rfl
@[simp] theorem configurePin_dinLevel (s : State) : (configurePin s).dinLevel = s.dinLevel := rfl
@[simp] theorem configurePin_inputs (s : State) : (configurePin s).inputs = s.inputs := rfl
@[simp] theorem configurePin_freeCount (s : State) : (configurePin s).freeCount = s.freeCount := rfl
@[simp] theorem configurePin_trace (s : State) : (configurePin s).trace = s.trace ++ [.pinCfg] := rfl

/-! `clearStrobes`. -/

@[simp] theorem clearStrobes_lc (s : State) : (clearStrobes s).lc = s.lc := rfl
@[simp] theorem clearStrobes_asleep (s : State) : (clearStrobes s).asleep = s.asleep := rfl
@[simp] theorem clearStrobes_pinCfg (s : State) : (clearStrobes s).pinCfg = s.pinCfg := rfl
@[simp] theorem clearStrobes_stKind (s : State) : (clearStrobes s).stKind = s.stKind := rfl
@[simp] theorem clearStrobes_stMsg (s : State) : (clearStrobes s).stMsg = s.stMsg := rfl
@[simp] theorem clearStrobes_voltOut (s : State) : (clearStrobes s).voltOut = s.voltOut := rfl
@[simp] theorem clearStrobes_socOut (s : State) : (clearStrobes s).socOut = s.socOut := rfl
@[simp] theorem clearStrobes_psrcOut (s : State) : (clearStrobes s).psrcOut = s.psrcOut := rfl
@[simp] theorem clearStrobes_seq (s : State) : (clearStrobes s).seq = s.seq := rfl
@[simp] theorem clearStrobes_buf (s : State) : (clearStrobes s).buf = s.buf := rfl
@[simp] theorem clearStrobes_tReq (s : State) : (clearStrobes s).tReq = s.tReq := rfl
@[simp] theorem clearStrobes_outstanding (s : State) : (clearStrobes s).outstanding = s.outstanding := rfl
@[simp] theorem clearStrobes_rsp (s : State) : (clearStrobes s).rsp = s.rsp := rfl
@[simp] theorem clearStrobes_vStrobe (s : State) : (clearStrobes s).vStrobe = false := rfl
@[simp] theorem clearStrobes_socStrobe (s : State) : (clearStrobes s).socStrobe = false := rfl
@[simp] theorem clearStrobes_psStrobe (s : State) : (clearStrobes s).psStrobe = false := rfl
@[simp] theorem clearStrobes_cfg (s : State) : (clearStrobes s).cfg = s.cfg := rfl
@[simp] theorem clearStrobes_hostCmds (s : State) : (clearStrobes s).hostCmds = s.hostCmds := rfl
@[simp] theorem clearStrobes_csrSel (s : State) : (clearStrobes s).csrSel = s.csrSel := rfl
@[simp] theorem clearStrobes_tReady (s : State) : (clearStrobes s).tReady = s.tReady := rfl
@[simp] theorem clearStrobes_dinLevel (s : State) : (clearStrobes s).dinLevel = s.dinLevel := rfl
@[simp] theorem clearStrobes_inputs (s : State) : (clearStrobes s).inputs = s.inputs := rfl
@[simp] theorem clearStrobes_freeCount (s : State) : (clearStrobes s).freeCount = s.freeCount := rfl
@[simp] theorem clearStrobes_trace (s : State) : (clearStrobes s).trace = s.trace := rfl

/-! `selectCsr`. -/

@[simp] theorem selectCsr_lc (sel : BitVec 2) (s : State) : (selectCsr sel s).lc = s.lc := rfl
@[simp] theorem selectCsr_asleep (sel : BitVec 2) (s : State) : (selectCsr sel s).asleep = s.asleep := rfl
@[simp] theorem selectCsr_pinCfg (sel : BitVec 2) (s : State) : (selectCsr sel s).pinCfg = s.pinCfg := rfl
@[simp] theorem selectCsr_stKind (sel : BitVec 2) (s : State) : (selectCsr sel s).stKind = s.stKind := rfl
@[simp] theorem selectCsr_stMsg (sel : BitVec 2) (s : State) : (selectCsr sel s).stMsg = s.stMsg := rfl
@[simp] theorem selectCsr_voltOut (sel : BitVec 2) (s : State) : (selectCsr sel s).voltOut = s.voltOut := rfl
@[simp] theorem selectCsr_socOut (sel : BitVec 2) (s : State) : (selectCsr sel s).socOut = s.socOut := rfl
@[simp] theorem selectCsr_psrcOut (sel : BitVec 2) (s : State) : (selectCsr sel s).psrcOut = s.psrcOut := rfl
@[simp] theorem selectCsr_seq (sel : BitVec 2) (s : State) : (selectCsr sel s).seq = s.seq := rfl
@[simp] theorem selectCsr_buf (sel : BitVec 2) (s : State) : (selectCsr sel s).buf = s.buf := rfl
@[simp] theorem selectCsr_tReq (sel : BitVec 2) (s : State) : (selectCsr sel s).tReq = s.tReq := rfl
@[simp] theorem selectCsr_outstanding (sel : BitVec 2) (s : State) : (selectCsr sel s).outstanding = s.outstanding := rfl
@[simp] theorem selectCsr_rsp (sel : BitVec 2) (s : State) : (selectCsr sel s).rsp = s.rsp := rfl
@[simp] theorem selectCsr_vStrobe (sel : BitVec 2) (s : State) : (selectCsr sel s).vStrobe = s.vStrobe := rfl
@[simp] theorem selectCsr_socStrobe (sel : BitVec 2) (s : State) : (selectCsr sel s).socStrobe = s.socStrobe := rfl
@[simp] theorem selectCsr_psStrobe (sel : BitVec 2) (s : State) : (selectCsr sel s).psStrobe = s.psStrobe := rfl
@[simp] theorem selectCsr_cfg (sel : BitVec 2) (s : State) : (selectCsr sel s).cfg = s.cfg := rfl
@[simp] theorem selectCsr_hostCmds (sel : BitVec 2) (s : State) : (selectCsr sel s).hostCmds = s.hostCmds := rfl
@[simp] theorem selectCsr_csrSel (sel : BitVec 2) (s : State) : (selectCsr sel s).csrSel = sel := rfl
@[simp] theorem selectCsr_tReady (sel : BitVec 2) (s : State) : (selectCsr sel s).tReady = s.tReady := rfl
@[simp] theorem selectCsr_dinLevel (sel : BitVec 2) (s : State) : (selectCsr sel s).dinLevel = s.dinLevel := rfl
@[simp] theorem selectCsr_inputs (sel : BitVec 2) (s : State) : (selectCsr sel s).inputs = s.inputs := rfl
@[simp] theorem selectCsr_freeCount (sel : BitVec 2) (s : State) : (selectCsr sel s).freeCount = s.freeCount := rfl
@[simp] theorem selectCsr_trace (sel : BitVec 2) (s : State) : (selectCsr sel s).trace = s.trace := rfl

/-! `complete`. -/

@[simp] theorem complete_lc (c : Completion) (s : State) : (complete c s).lc = s.lc := rfl
@[simp] theorem complete_asleep (c : Completion) (s : State) : (complete c s).asleep = s.asleep := rfl
@[simp] theorem complete_pinCfg (c : Completion) (s : State) : (complete c s).pinCfg = s.pinCfg := rfl
@[simp] theorem complete_stKind (c : Completion) (s : State) : (complete c s).stKind = s.stKind := rfl
@[simp] theorem complete_stMsg (c : Completion) (s : State) : (complete c s).stMsg = s.stMsg := rfl
@[simp] theorem complete_voltOut (c : Completion) (s : State) : (complete c s).voltOut = s.voltOut := rfl
@[simp] theorem complete_socOut (c : Completion) (s : State) : (complete c s).socOut = s.socOut := rfl
@[simp] theorem complete_psrcOut (c : Completion) (s : State) : (complete c s).psrcOut = s.psrcOut := rfl
@[simp] theorem complete_seq (c : Completion) (s : State) : (complete c s).seq = s.seq := rfl
@[simp] theorem complete_buf (c : Completion) (s : State) : (complete c s).buf = s.buf := rfl
@[simp] theorem complete_tReq (c : Completion) (s : State) : (complete c s).tReq = s.tReq := rfl
@[simp] theorem complete_outstanding (c : Completion) (s : State) : (complete c s).outstanding = s.outstanding := rfl
@[simp] theorem complete_rsp (c : Completion) (s : State) : (complete c s).rsp = none := rfl
@[simp] theorem complete_vStrobe (c : Completion) (s : State) : (complete c s).vStrobe = s.vStrobe := rfl
@[simp] theorem complete_socStrobe (c : Completion) (s : State) : (complete c s).socStrobe = s.socStrobe := rfl
@[simp] theorem complete_psStrobe (c : Completion) (s : State) : (complete c s).psStrobe = s.psStrobe := rfl
@[simp] theorem complete_cfg (c : Completion) (s : State) : (complete c s).cfg = s.cfg := rfl
@[simp] theorem complete_hostCmds (c : Completion) (s : State) : (complete c s).hostCmds = s.hostCmds := rfl
@[simp] theorem complete_csrSel (c : Completion) (s : State) : (complete c s).csrSel = s.csrSel := rfl
@[simp] theorem complete_tReady (c : Completion) (s : State) : (complete c s).tReady = s.tReady := rfl
@[simp] theorem complete_dinLevel (c : Completion) (s : State) : (complete c s).dinLevel = s.dinLevel := rfl
@[simp] theorem complete_inputs (c : Completion) (s : State) : (complete c s).inputs = s.inputs := rfl
@[simp] theorem complete_freeCount (c : Completion) (s : State) : (complete c s).freeCount = s.freeCount := rfl
@[simp] theorem complete_trace (c : Completion) (s : State) : (complete c s).trace = s.trace ++ [.done c] := rfl

/-! `setInputs`. -/

@[simp] theorem setInputs_lc (l : List PortInput) (s : State) : (setInputs l s).lc = s.lc := rfl
@[simp] theorem setInputs_asleep (l : List PortInput) (s : State) : (setInputs l s).asleep = s.asleep := rfl
@[simp] theorem setInputs_pinCfg (l : List PortInput) (s : State) : (setInputs l s).pinCfg = s.pinCfg := rfl
@[simp] theorem setInputs_stKind (l : List PortInput) (s : State) : (setInputs l s).stKind = s.stKind := rfl
@[simp] theorem setInputs_stMsg (l : List PortInput) (s : State) : (setInputs l s).stMsg = s.stMsg := rfl
@[simp] theorem setInputs_voltOut (l : List PortInput) (s : State) : (setInputs l s).voltOut = s.voltOut := rfl
@[simp] theorem setInputs_socOut (l : List PortInput) (s : State) : (setInputs l s).socOut = s.socOut := rfl
@[simp] theorem setInputs_psrcOut (l : List PortInput) (s : State) : (setInputs l s).psrcOut = s.psrcOut := rfl
@[simp] theorem setInputs_seq (l : List PortInput) (s : State) : (setInputs l s).seq = s.seq := rfl
@[simp] theorem setInputs_buf (l : List PortInput) (s : State) : (setInputs l s).buf = s.buf := rfl
@[simp] theorem setInputs_tReq (l : List PortInput) (s : State) : (setInputs l s).tReq = s.tReq := rfl
@[simp] theorem setInputs_outstanding (l : List PortInput) (s : State) : (setInputs l s).outstanding = s.outstanding := rfl
@[simp] theorem setInputs_rsp (l : List PortInput) (s : State) : (setInputs l s).rsp = s.rsp := rfl
@[simp] theorem setInputs_vStrobe (l : List PortInput) (s : State) : (setInputs l s).vStrobe = s.vStrobe := rfl
@[simp] theorem setInputs_socStrobe (l : List PortInput) (s : State) : (setInputs l s).socStrobe = s.socStrobe := rfl
@[simp] theorem setInputs_psStrobe (l : List PortInput) (s : State) : (setInputs l s).psStrobe = s.psStrobe := rfl
@[simp] theorem setInputs_cfg (l : List PortInput) (s : State) : (setInputs l s).cfg = s.cfg := rfl
@[simp] theorem setInputs_hostCmds (l : List PortInput) (s : State) : (setInputs l s).hostCmds = s.hostCmds := rfl
@[simp] theorem setInputs_csrSel (l : List PortInput) (s : State) : (setInputs l s).csrSel = s.csrSel := rfl
@[simp] theorem setInputs_tReady (l : List PortInput) (s : State) : (setInputs l s).tReady = s.tReady := rfl
@[simp] theorem setInputs_dinLevel (l : List PortInput) (s : State) : (setInputs l s).dinLevel = s.dinLevel := rfl
@[simp] theorem setInputs_inputs (l : List PortInput) (s : State) : (setInputs l s).inputs = l := rfl
@[simp] theorem setInputs_freeCount (l : List PortInput) (s : State) : (setInputs l s).freeCount = s.freeCount := rfl
@[simp] theorem setInputs_trace (l : List PortInput) (s : State) : (setInputs l s).trace = s.trace := rfl

/-! `setHostCmds`. -/

@[simp] theorem setHostCmds_lc (l : List (BitVec 2)) (s : State) : (setHostCmds l s).lc = s.lc := rfl
@[simp] theorem setHostCmds_asleep (l : List (BitVec 2)) (s : State) : (setHostCmds l s).asleep = s.asleep := rfl
@[simp] theorem setHostCmds_pinCfg (l : List (BitVec 2)) (s : State) : (setHostCmds l s).pinCfg = s.pinCfg := rfl
@[simp] theorem setHostCmds_stKind (l : List (BitVec 2)) (s : State) : (setHostCmds l s).stKind = s.stKind := rfl
@[simp] theorem setHostCmds_stMsg (l : List (BitVec 2)) (s : State) : (setHostCmds l s).stMsg = s.stMsg := rfl
@[simp] theorem setHostCmds_voltOut (l : List (BitVec 2)) (s : State) : (setHostCmds l s).voltOut = s.voltOut := rfl
@[simp] theorem setHostCmds_socOut (l : List (BitVec 2)) (s : State) : (setHostCmds l s).socOut = s.socOut := rfl
@[simp] theorem setHostCmds_psrcOut (l : List (BitVec 2)) (s : State) : (setHostCmds l s).psrcOut = s.psrcOut := rfl
@[simp] theorem setHostCmds_seq (l : List (BitVec 2)) (s : State) : (setHostCmds l s).seq = s.seq := rfl
@[simp] theorem setHostCmds_buf (l : List (BitVec 2)) (s : State) : (setHostCmds l s).buf = s.buf := rfl
@[simp] theorem setHostCmds_tReq (l : List (BitVec 2)) (s : State) : (setHostCmds l s).tReq = s.tReq := rfl
@[simp] theorem setHostCmds_outstanding (l : List (BitVec 2)) (s : State) : (setHostCmds l s).outstanding = s.outstanding := rfl
@[simp] theorem setHostCmds_rsp (l : List (BitVec 2)) (s : State) : (setHostCmds l s).rsp = s.rsp := rfl
@[simp] theorem setHostCmds_vStrobe (l : List (BitVec 2)) (s : State) : (setHostCmds l s).vStrobe = s.vStrobe := rfl
@[simp] theorem setHostCmds_socStrobe (l : List (BitVec 2)) (s : State) : (setHostCmds l s).socStrobe = s.socStrobe := rfl
@[simp] theorem setHostCmds_psStrobe (l : List (BitVec 2)) (s : State) : (setHostCmds l s).psStrobe = s.psStrobe := rfl
@[simp] theorem setHostCmds_cfg (l : List (BitVec 2)) (s : State) : (setHostCmds l s).cfg = s.cfg := rfl
@[simp] theorem setHostCmds_hostCmds (l : List (BitVec 2)) (s : State) : (setHostCmds l s).hostCmds = l := rfl
@[simp] theorem setHostCmds_csrSel (l : List (BitVec 2)) (s : State) : (setHostCmds l s).csrSel = s.csrSel := rfl
@[simp] theorem setHostCmds_tReady (l : List (BitVec 2)) (s : State) : (setHostCmds l s).tReady = s.tReady := rfl
@[simp] theorem setHostCmds_dinLevel (l : List (BitVec 2)) (s : State) : (setHostCmds l s).dinLevel = s.dinLevel := rfl
@[simp] theorem setHostCmds_inputs (l : List (BitVec 2)) (s : State) : (setHostCmds l s).inputs = s.inputs := rfl
@[simp] theorem setHostCmds_freeCount (l : List (BitVec 2)) (s : State) : (setHostCmds l s).freeCount = s.freeCount := rfl
@[simp] theorem setHostCmds_trace (l : List (BitVec 2)) (s : State) : (setHostCmds l s).trace = s.trace := rfl

/-! `setReady`. -/

@[simp] theorem setReady_lc (b : Bool) (s : State) : (setReady b s).lc = s.lc := rfl
@[simp] theorem setReady_asleep (b : Bool) (s : State) : (setReady b s).asleep = s.asleep := rfl
@[simp] theorem setReady_pinCfg (b : Bool) (s : State) : (setReady b s).pinCfg = s.pinCfg := rfl
@[simp] theorem setReady_stKind (b : Bool) (s : State) : (setReady b s).stKind = s.stKind := rfl
@[simp] theorem setReady_stMsg (b : Bool) (s : State) : (setReady b s).stMsg = s.stMsg := rfl
@[simp] theorem setReady_voltOut (b : Bool) (s : State) : (setReady b s).voltOut = s.voltOut := rfl
@[simp] theorem setReady_socOut (b : Bool) (s : State) : (setReady b s).socOut = s.socOut := rfl
@[simp] theorem setReady_psrcOut (b : Bool) (s : State) : (setReady b s).psrcOut = s.psrcOut := rfl
@[simp] theorem setReady_seq (b : Bool) (s : State) : (setReady b s).seq = s.seq := rfl
@[simp] theorem setReady_buf (b : Bool) (s : State) : (setReady b s).buf = s.buf := rfl
@[simp] theorem setReady_tReq (b : Bool) (s : State) : (setReady b s).tReq = s.tReq := rfl
@[simp] theorem setReady_outstanding (b : Bool) (s : State) : (setReady b s).outstanding = s.outstanding := rfl
@[simp] theorem setReady_rsp (b : Bool) (s : State) : (setReady b s).rsp = s.rsp := rfl
@[simp] theorem setReady_vStrobe (b : Bool) (s : State) : (setReady b s).vStrobe = s.vStrobe := rfl
@[simp] theorem setReady_socStrobe (b : Bool) (s : State) : (setReady b s).socStrobe = s.socStrobe := rfl
@[simp] theorem setReady_psStrobe (b : Bool) (s : State) : (setReady b s).psStrobe = s.psStrobe := rfl
@[simp] theorem setReady_cfg (b : Bool) (s : State) : (setReady b s).cfg = s.cfg := rfl
@[simp] theorem setReady_hostCmds (b : Bool) (s : State) : (setReady b s).hostCmds = s.hostCmds := rfl
@[simp] theorem setReady_csrSel (b : Bool) (s : State) : (setReady b s).csrSel = s.csrSel := rfl
@[simp] theorem setReady_tReady (b : Bool) (s : State) : (setReady b s).tReady = b := rfl
@[simp] theorem setReady_dinLevel (b : Bool) (s : State) : (setReady b s).dinLevel = s.dinLevel := rfl
@[simp] theorem setReady_inputs (b : Bool) (s : State) : (setReady b s).inputs = s.inputs := rfl
@[simp] theorem setReady_freeCount (b : Bool) (s : State) : (setReady b s).freeCount = s.freeCount := rfl
@[simp] theorem setReady_trace (b : Bool) (s : State) : (setReady b s).trace = s.trace := rfl

/-! `setDin`. -/

@[simp] theorem setDin_lc (b : Bool) (s : State) : (setDin b s).lc = s.lc := rfl
@[simp] theorem setDin_asleep (b : Bool) (s : State) : (setDin b s).asleep = s.asleep := rfl
@[simp] theorem setDin_pinCfg (b : Bool) (s : State) : (setDin b s).pinCfg = s.pinCfg := rfl
@[simp] theorem setDin_stKind (b : Bool) (s : State) : (setDin b s).stKind = s.stKind := rfl
@[simp] theorem setDin_stMsg (b : Bool) (s : State) : (setDin b s).stMsg = s.stMsg := rfl
@[simp] theorem setDin_voltOut (b : Bool) (s : State) : (setDin b s).voltOut = s.voltOut := rfl
@[simp] theorem setDin_socOut (b : Bool) (s : State) : (setDin b s).socOut = s.socOut := rfl
@[simp] theorem setDin_psrcOut (b : Bool) (s : State) : (setDin b s).psrcOut = s.psrcOut := rfl
@[simp] theorem setDin_seq (b : Bool) (s : State) : (setDin b s).seq = s.seq := rfl
@[simp] theorem setDin_buf (b : Bool) (s : State) : (setDin b s).buf = s.buf := rfl
@[simp] theorem setDin_tReq (b : Bool) (s : State) : (setDin b s).tReq = s.tReq := rfl
@[simp] theorem setDin_outstanding (b : Bool) (s : State) : (setDin b s).outstanding = s.outstanding := rfl
@[simp] theorem setDin_rsp (b : Bool) (s : State) : (setDin b s).rsp = s.rsp := rfl
@[simp] theorem setDin_vStrobe (b : Bool) (s : State) : (setDin b s).vStrobe = s.vStrobe := rfl
@[simp] theorem setDin_socStrobe (b : Bool) (s : State) : (setDin b s).socStrobe = s.socStrobe := rfl
@[simp] theorem setDin_psStrobe (b : Bool) (s : State) : (setDin b s).psStrobe = s.psStrobe := rfl
@[simp] theorem setDin_cfg (b : Bool) (s : State) : (setDin b s).cfg = s.cfg := rfl
@[simp] theorem setDin_hostCmds (b : Bool) (s : State) : (setDin b s).hostCmds = s.hostCmds := rfl
@[simp] theorem setDin_csrSel (b : Bool) (s : State) : (setDin b s).csrSel = s.csrSel := rfl
@[simp] theorem setDin_tReady (b : Bool) (s : State) : (setDin b s).tReady = s.tReady := rfl
@[simp] theorem setDin_dinLevel (b : Bool) (s : State) : (setDin b s).dinLevel = b := rfl
@[simp] theorem setDin_inputs (b : Bool) (s : State) : (setDin b s).inputs = s.inputs := rfl
@[simp] theorem setDin_freeCount (b : Bool) (s : State) : (setDin b s).freeCount = s.freeCount := rfl
@[simp] theorem setDin_trace (b : Bool) (s : State) : (setDin b s).trace = s.trace := rfl

/-! `applyReset`. -/

@[simp] theorem applyReset_lc (s : State) : (applyReset s).lc = .uninit := rfl
@[simp] theorem applyReset_asleep (s : State) : (applyReset s).asleep = false := rfl
@[simp] theorem applyReset_pinCfg (s : State) : (applyReset s).pinCfg = false := rfl
@[simp] theorem applyReset_stKind (s : State) : (applyReset s).stKind = .ok := rfl
@[simp] theorem applyReset_stMsg (s : State) : (applyReset s).stMsg = .none := rfl
@[simp] theorem applyReset_voltOut (s : State) : (applyReset s).voltOut = ⟨false, 0#32⟩ := rfl
@[simp] theorem applyReset_socOut (s : State) : (applyReset s).socOut = ⟨false, 0#32⟩ := rfl
@[simp] theorem applyReset_psrcOut (s : State) : (applyReset s).psrcOut = ⟨false, false⟩ := rfl
@[simp] theorem applyReset_seq (s : State) : (applyReset s).seq = .idle := rfl
@[simp] theorem applyReset_buf (s : State) : (applyReset s).buf = 0#16 := rfl
@[simp] theorem applyReset_tReq (s : State) : (applyReset s).tReq = none := rfl
@[simp] theorem applyReset_outstanding (s : State) : (applyReset s).outstanding = none := rfl
@[simp] theorem applyReset_rsp (s : State) : (applyReset s).rsp = none := rfl
@[simp] theorem applyReset_vStrobe (s : State) : (applyReset s).vStrobe = false := rfl
@[simp] theorem applyReset_socStrobe (s : State) : (applyReset s).socStrobe = false := rfl
@[simp] theorem applyReset_psStrobe (s : State) : (applyReset s).psStrobe = false := rfl
@[simp] theorem applyReset_cfg (s : State) : (applyReset s).cfg = s.cfg := rfl
@[simp] theorem applyReset_hostCmds (s : State) : (applyReset s).hostCmds = s.hostCmds := rfl
@[simp] theorem applyReset_csrSel (s : State) : (applyReset s).csrSel = s.csrSel := rfl
@[simp] theorem applyReset_tReady (s : State) : (applyReset s).tReady = s.tReady := rfl
@[simp] theorem applyReset_dinLevel (s : State) : (applyReset s).dinLevel = s.dinLevel := rfl
@[simp] theorem applyReset_inputs (s : State) : (applyReset s).inputs = s.inputs := rfl
@[simp] theorem applyReset_freeCount (s : State) : (applyReset s).freeCount = s.freeCount := rfl
@[simp] theorem applyReset_trace (s : State) : (applyReset s).trace = s.trace := rfl

end Sys2Proof.Machine
end

