-- ==== Sys2Proof/Laws/Ops.lean ====
section
/-! SUPPORT. What each shared operation does, said once. -/

namespace Sys2Proof.Machine

variable (s : State)

/-! `ClearWarning` (R163). -/

theorem clearWarning_of_warning (h : s.stKind = .warning) :
    clearWarning s = writeStatus .ok .none s := if_pos h

theorem clearWarning_of_not_warning (h : s.stKind ≠ .warning) : clearWarning s = s := if_neg h

/-- `ClearWarning` writes the status and the trace, nothing else. -/
theorem clearWarning_frame : clearWarning s =
    { s with stKind := (clearWarning s).stKind, stMsg := (clearWarning s).stMsg,
             trace := (clearWarning s).trace } := by
  unfold clearWarning; split <;> rfl

@[simp] theorem clearWarning_seq : (clearWarning s).seq = s.seq := by
  unfold clearWarning; split <;> rfl
@[simp] theorem clearWarning_cfg : (clearWarning s).cfg = s.cfg := by
  unfold clearWarning; split <;> rfl

@[simp] theorem clearWarning_lc : (clearWarning s).lc = s.lc := by
  unfold clearWarning; split <;> rfl
@[simp] theorem clearWarning_asleep : (clearWarning s).asleep = s.asleep := by
  unfold clearWarning; split <;> rfl
@[simp] theorem clearWarning_pinCfg : (clearWarning s).pinCfg = s.pinCfg := by
  unfold clearWarning; split <;> rfl
@[simp] theorem clearWarning_voltOut : (clearWarning s).voltOut = s.voltOut := by
  unfold clearWarning; split <;> rfl
@[simp] theorem clearWarning_socOut : (clearWarning s).socOut = s.socOut := by
  unfold clearWarning; split <;> rfl
@[simp] theorem clearWarning_psrcOut : (clearWarning s).psrcOut = s.psrcOut := by
  unfold clearWarning; split <;> rfl
@[simp] theorem clearWarning_buf : (clearWarning s).buf = s.buf := by
  unfold clearWarning; split <;> rfl
@[simp] theorem clearWarning_tReq : (clearWarning s).tReq = s.tReq := by
  unfold clearWarning; split <;> rfl
@[simp] theorem clearWarning_outstanding : (clearWarning s).outstanding = s.outstanding := by
  unfold clearWarning; split <;> rfl
@[simp] theorem clearWarning_rsp : (clearWarning s).rsp = s.rsp := by
  unfold clearWarning; split <;> rfl
@[simp] theorem clearWarning_vStrobe : (clearWarning s).vStrobe = s.vStrobe := by
  unfold clearWarning; split <;> rfl
@[simp] theorem clearWarning_socStrobe : (clearWarning s).socStrobe = s.socStrobe := by
  unfold clearWarning; split <;> rfl
@[simp] theorem clearWarning_psStrobe : (clearWarning s).psStrobe = s.psStrobe := by
  unfold clearWarning; split <;> rfl
@[simp] theorem clearWarning_hostCmds : (clearWarning s).hostCmds = s.hostCmds := by
  unfold clearWarning; split <;> rfl
@[simp] theorem clearWarning_csrSel : (clearWarning s).csrSel = s.csrSel := by
  unfold clearWarning; split <;> rfl
@[simp] theorem clearWarning_tReady : (clearWarning s).tReady = s.tReady := by
  unfold clearWarning; split <;> rfl
@[simp] theorem clearWarning_dinLevel : (clearWarning s).dinLevel = s.dinLevel := by
  unfold clearWarning; split <;> rfl
@[simp] theorem clearWarning_inputs : (clearWarning s).inputs = s.inputs := by
  unfold clearWarning; split <;> rfl
@[simp] theorem clearWarning_freeCount : (clearWarning s).freeCount = s.freeCount := by
  unfold clearWarning; split <;> rfl

/-! The end of a command (R170). -/

theorem endCommand_of_idle (c : Completion) (h : s.seq = .idle) : endCommand c s = respond c s := by
  simp [endCommand, h]

theorem endCommand_of_busy (c : Completion) (h : s.seq ≠ .idle) :
    endCommand c s = respond c { releaseBuf s with seq := .idle } := by
  simp [endCommand, h]

@[simp] theorem endCommand_seq (c : Completion) : (endCommand c s).seq = .idle := by
  by_cases h : s.seq = .idle
  · simp [endCommand_of_idle, h]
  · simp [endCommand_of_busy, h]

@[simp] theorem endCommand_rsp (c : Completion) : (endCommand c s).rsp = some c.code := rfl

/-! Every field but `SEQ`, `BUF`, the counter and the completion port is left. -/

@[simp] theorem endCommand_lc (c : Completion) : (endCommand c s).lc = s.lc := by
  unfold endCommand; split <;> rfl
@[simp] theorem endCommand_asleep (c : Completion) : (endCommand c s).asleep = s.asleep := by
  unfold endCommand; split <;> rfl
@[simp] theorem endCommand_pinCfg (c : Completion) : (endCommand c s).pinCfg = s.pinCfg := by
  unfold endCommand; split <;> rfl
@[simp] theorem endCommand_stKind (c : Completion) : (endCommand c s).stKind = s.stKind := by
  unfold endCommand; split <;> rfl
@[simp] theorem endCommand_stMsg (c : Completion) : (endCommand c s).stMsg = s.stMsg := by
  unfold endCommand; split <;> rfl
@[simp] theorem endCommand_voltOut (c : Completion) : (endCommand c s).voltOut = s.voltOut := by
  unfold endCommand; split <;> rfl
@[simp] theorem endCommand_socOut (c : Completion) : (endCommand c s).socOut = s.socOut := by
  unfold endCommand; split <;> rfl
@[simp] theorem endCommand_psrcOut (c : Completion) : (endCommand c s).psrcOut = s.psrcOut := by
  unfold endCommand; split <;> rfl
@[simp] theorem endCommand_tReq (c : Completion) : (endCommand c s).tReq = s.tReq := by
  unfold endCommand; split <;> rfl
@[simp] theorem endCommand_outstanding (c : Completion) : (endCommand c s).outstanding = s.outstanding := by
  unfold endCommand; split <;> rfl
@[simp] theorem endCommand_vStrobe (c : Completion) : (endCommand c s).vStrobe = s.vStrobe := by
  unfold endCommand; split <;> rfl
@[simp] theorem endCommand_socStrobe (c : Completion) : (endCommand c s).socStrobe = s.socStrobe := by
  unfold endCommand; split <;> rfl
@[simp] theorem endCommand_psStrobe (c : Completion) : (endCommand c s).psStrobe = s.psStrobe := by
  unfold endCommand; split <;> rfl
@[simp] theorem endCommand_cfg (c : Completion) : (endCommand c s).cfg = s.cfg := by
  unfold endCommand; split <;> rfl
@[simp] theorem endCommand_hostCmds (c : Completion) : (endCommand c s).hostCmds = s.hostCmds := by
  unfold endCommand; split <;> rfl
@[simp] theorem endCommand_csrSel (c : Completion) : (endCommand c s).csrSel = s.csrSel := by
  unfold endCommand; split <;> rfl
@[simp] theorem endCommand_tReady (c : Completion) : (endCommand c s).tReady = s.tReady := by
  unfold endCommand; split <;> rfl
@[simp] theorem endCommand_dinLevel (c : Completion) : (endCommand c s).dinLevel = s.dinLevel := by
  unfold endCommand; split <;> rfl
@[simp] theorem endCommand_inputs (c : Completion) : (endCommand c s).inputs = s.inputs := by
  unfold endCommand; split <;> rfl
@[simp] theorem endCommand_trace (c : Completion) : (endCommand c s).trace = s.trace := by
  unfold endCommand; split <;> rfl

/-- The end of a command writes `SEQ`, `BUF` (with the model's counter) and the completion port. -/
theorem endCommand_frame (c : Completion) : endCommand c s =
    { s with seq := .idle, rsp := some c.code, buf := (endCommand c s).buf,
             freeCount := (endCommand c s).freeCount } := by
  by_cases h : s.seq = .idle
  · rw [endCommand_of_idle _ _ h]; cases s; simp_all [respond]
  · rw [endCommand_of_busy _ _ h]; rfl

/-! Raising a cause (R156 to R158). -/

/-- `raise Fatal` (R156): the lifecycle, the status, and the end of the command. -/
theorem raise_fatal (c : FatalCause) : raise (.fatal c) s =
    endCommand .done { s with lc := .failed, stKind := c.kind, stMsg := c.msg,
                              trace := s.trace ++ [.status c.kind c.msg] } := rfl

/-- `raise Warn` (R157): the status only. -/
theorem raise_warn (c : WarnCause) : raise (.warn c) s =
    { s with stKind := .warning, stMsg := c.msg, trace := s.trace ++ [.status .warning c.msg] } := rfl

/-- `raise Protocol` (R158): the completion code only. -/
theorem raise_protocol (c : ProtocolCause) :
    raise (.protocol c) s = { s with rsp := some c.completion.code } := rfl

/-! Taking an answer (R83). -/

theorem takeAnswer_of_none (f : Request → Answer) (g : State → State) (h : s.outstanding = none) :
    takeAnswer f g s = s := by simp [takeAnswer, h]

theorem takeAnswer_of_some (f : Request → Answer) (g : State → State) {r : Request}
    (h : s.outstanding = some r) :
    takeAnswer f g s = g (record (.tRsp (f r)) { s with outstanding := none }) := by
  simp [takeAnswer, h]

/-! The command port (R51, R83). -/

theorem atCommandPort_of_idle (w : BitVec 2) (g : State → State) (h : s.seq = .idle) :
    atCommandPort w g s = g s := if_pos h

theorem atCommandPort_of_busy (w : BitVec 2) (g : State → State) (h : s.seq ≠ .idle) :
    atCommandPort w g s = setHostCmds (s.hostCmds ++ [w]) s := if_neg h

/-! What an accepted command does, by the lifecycle (R158's table). -/

theorem acceptSetup_of_uninit (h : s.lc = .uninit) : acceptSetup s = setupStart s := by
  simp [acceptSetup, h]

theorem acceptSetup_of_not_uninit (h : s.lc ≠ .uninit) :
    acceptSetup s = raise (.protocol .illegalState) s := by
  unfold acceptSetup; split <;> simp_all

theorem acceptUpdate_of_ready (h : s.lc = .ready) : acceptUpdate s = updateVolt s := by
  simp [acceptUpdate, h]

theorem acceptUpdate_of_failed (h : s.lc = .failed) : acceptUpdate s = respond .done s := by
  simp [acceptUpdate, h]

theorem acceptUpdate_of_uninit (h : s.lc = .uninit) :
    acceptUpdate s = raise (.protocol .illegalState) s := by simp [acceptUpdate, h]

theorem acceptSleep_of_ready (h : s.lc = .ready) : acceptSleep s = sleepStart s := by
  simp [acceptSleep, h]

theorem acceptSleep_of_failed (h : s.lc = .failed) : acceptSleep s = respond .done s := by
  simp [acceptSleep, h]

theorem acceptSleep_of_uninit (h : s.lc = .uninit) :
    acceptSleep s = raise (.protocol .illegalState) s := by simp [acceptSleep, h]

/-! The command sequences: where UPDATE goes on, and SETUP's check (R132, R133, R104). -/

theorem updatePower_of_present (h : s.cfg.sinkPs = true) : updatePower s = { s with seq := .updPs } := by
  simp [updatePower, h]

theorem updatePower_of_absent (h : s.cfg.sinkPs = false) : updatePower s = endCommand .done s := by
  simp [updatePower, h]

theorem updateSoc_of_present (h : s.cfg.sinkSoc = true) :
    updateSoc s = offer qRdSocWord { s with seq := .updSoc } := by simp [updateSoc, h]

theorem updateSoc_of_absent (h : s.cfg.sinkSoc = false) : updateSoc s = updatePower s := by
  simp [updateSoc, h]

theorem updateVolt_of_present (h : s.cfg.sinkV = true) :
    updateVolt s = offer qRdVcellWord { s with seq := .updV } := by simp [updateVolt, h]

theorem updateVolt_of_absent (h : s.cfg.sinkV = false) : updateVolt s = updateSoc s := by
  simp [updateVolt, h]

theorem setupCheck_of_match {b0 b1 : Byte} (h : idMatch (beWord b0 b1) = true) :
    setupCheck b0 b1 s = offer qWbConfigWord { s with buf := beWord b0 b1, seq := .setupWb } := by
  simp [setupCheck, h]

theorem setupCheck_of_mismatch {b0 b1 : Byte} (h : idMatch (beWord b0 b1) = false) :
    setupCheck b0 b1 s = raise (.fatal .unrecognised) { s with buf := beWord b0 b1 } := by
  simp [setupCheck, h]

/-! The identity check and the codes. -/

/-- The bytes of a word, put together big-endian, are the word (R63). -/
@[simp] theorem beWord_bytes (w : Word) : beWord (hiByte w) (loByte w) = w := by
  apply BitVec.eq_of_getLsbD_eq
  intro i hi
  simp only [beWord, hiByte, loByte, BitVec.getLsbD_append, BitVec.getLsbD_extractLsb']
  by_cases h : i < 8
  · simp [h]
  · have : i - 8 < 8 := by omega
    have : 8 + (i - 8) = i := by omega
    simp [*]

theorem idMatch_iff (c : Word) : idMatch c = true ↔ c &&& 0xFF1F#16 = 0x971C#16 := by
  simp [idMatch, maskedConfig, safeMask, configDefault]

theorem Completion.code_ne_three (c : Completion) : c.code ≠ 3#2 := by cases c <;> decide

end Sys2Proof.Machine
end

