-- ==== Sys2Proof/Laws/Decode.lean ====
section
/-! SUPPORT. What the decoder reads at each port, in the terms of the meanings. -/

namespace Sys2Proof.Machine

/-- A word of the port's width is decoded, not refused for its width. -/
theorem decode_of_lt (f : Format) (w : Nat) (h : w < 2 ^ f.width) :
    decode f w = decodeFitting f w := if_pos h

@[simp] theorem decode_cmd_toNat (w : BitVec 2) : decode .cmd w.toNat = .ok (decodeCmd w) := by
  rw [decode_of_lt _ _ w.isLt]; simp [decodeFitting]

@[simp] theorem decode_crsp_toNat (w : BitVec 2) : decode .crsp w.toNat = decodeCrsp w := by
  rw [decode_of_lt _ _ w.isLt]; simp [decodeFitting]

@[simp] theorem decode_treq_toNat (w : BitVec 28) : decode .treq w.toNat = .ok (decodeTreq w) := by
  rw [decode_of_lt _ _ w.isLt]; simp [decodeFitting]

@[simp] theorem decode_trsp_toNat (w : BitVec 17) : decode .trsp w.toNat = .ok (decodeTrsp w) := by
  rw [decode_of_lt _ _ w.isLt]; simp [decodeFitting]

@[simp] theorem decode_csrSel_toNat (w : BitVec 2) : decode .csrSel w.toNat = .ok (decodeCsrSel w) := by
  rw [decode_of_lt _ _ w.isLt]; simp [decodeFitting]

/-- A request word is the concatenation of its fields (R78). -/
theorem treqWord_of_fields (w : BitVec 28) :
    treqWord (treqKind w) (treqLen w) (treqAddr w) (treqWdata w) = w := by
  apply BitVec.eq_of_getLsbD_eq
  intro i hi
  simp only [treqWord, treqKind, treqLen, treqAddr, treqWdata]
  erw [BitVec.getLsbD_append, BitVec.getLsbD_append, BitVec.getLsbD_append]
  simp only [BitVec.getLsbD_extractLsb']
  by_cases h1 : i < 16
  · simp [h1]
  · by_cases h2 : i - 16 < 8
    · have : 16 + (i - 16) = i := by omega
      simp [*]
    · by_cases h3 : i - 16 - 8 < 2
      · have : 24 + (i - 16 - 8) = i := by omega
        simp [*]
      · have : i - 16 - 8 - 2 < 2 := by omega
        have : 26 + (i - 16 - 8 - 2) = i := by omega
        simp [*]

/-- A request word at the request port issues the request it is the word of, and does nothing else. -/
theorem exec_decodeTreq (w : BitVec 28) :
    ∃ r : Request, r.word = w ∧ ∀ s, exec (decodeTreq w) s = .next (issue r s) := by
  unfold decodeTreq
  split
  · subst w; exact ⟨reqSelConfig, by decide, fun _ => rfl⟩
  split
  · subst w; exact ⟨reqRd2, by decide, fun _ => rfl⟩
  split
  · subst w; exact ⟨reqWbConfig, by decide, fun _ => rfl⟩
  split
  · subst w; exact ⟨reqRdVcell, by decide, fun _ => rfl⟩
  split
  · subst w; exact ⟨reqRdSoc, by decide, fun _ => rfl⟩
  split
  · subst w; exact ⟨reqSleep, by decide, fun _ => rfl⟩
  have key := treqWord_of_fields w
  unfold decodeGenericTreq
  split
  next h => exact ⟨⟨.write, treqLen w, treqAddr w, treqWdata w⟩, by rw [h] at key; exact key, fun _ => rfl⟩
  split
  next h => exact ⟨⟨.read, treqLen w, treqAddr w, treqWdata w⟩, by rw [h] at key; exact key, fun _ => rfl⟩
  split
  next h => exact ⟨⟨.read16, treqLen w, treqAddr w, treqWdata w⟩, by rw [h] at key; exact key, fun _ => rfl⟩
  next h0 h1 h2 =>
    have h3 : treqKind w = 3#2 := by
      have := (treqKind w).isLt
      apply BitVec.eq_of_toNat_eq
      simp only [← BitVec.toNat_inj] at h0 h1 h2
      simp at *; omega
    exact ⟨⟨.write16, treqLen w, treqAddr w, treqWdata w⟩, by rw [h3] at key; exact key, fun _ => rfl⟩

section Fields
variable (k l : BitVec 2) (a : Byte) (d : Word)

@[simp] theorem treqKind_treqWord : treqKind (treqWord k l a d) = k := by
  apply BitVec.eq_of_getLsbD_eq
  intro i hi
  simp only [treqKind, treqWord, BitVec.getLsbD_extractLsb']
  erw [BitVec.getLsbD_append, BitVec.getLsbD_append, BitVec.getLsbD_append]
  have h1 : ¬ 26 + i < 16 := by omega
  have h2 : ¬ 26 + i - 16 < 8 := by omega
  have h3 : ¬ 26 + i - 16 - 8 < 2 := by omega
  have h4 : 26 + i - 16 - 8 - 2 = i := by omega
  simp [*]

@[simp] theorem treqLen_treqWord : treqLen (treqWord k l a d) = l := by
  apply BitVec.eq_of_getLsbD_eq
  intro i hi
  simp only [treqLen, treqWord, BitVec.getLsbD_extractLsb']
  erw [BitVec.getLsbD_append, BitVec.getLsbD_append, BitVec.getLsbD_append]
  have h1 : ¬ 24 + i < 16 := by omega
  have h2 : ¬ 24 + i - 16 < 8 := by omega
  have h3 : 24 + i - 16 - 8 < 2 := by omega
  have h4 : 24 + i - 16 - 8 = i := by omega
  simp [*]

@[simp] theorem treqAddr_treqWord : treqAddr (treqWord k l a d) = a := by
  apply BitVec.eq_of_getLsbD_eq
  intro i hi
  simp only [treqAddr, treqWord, BitVec.getLsbD_extractLsb']
  erw [BitVec.getLsbD_append, BitVec.getLsbD_append, BitVec.getLsbD_append]
  simp [hi]

@[simp] theorem treqWdata_treqWord : treqWdata (treqWord k l a d) = d := by
  apply BitVec.eq_of_getLsbD_eq
  intro i hi
  simp only [treqWdata, treqWord, BitVec.getLsbD_extractLsb']
  erw [BitVec.getLsbD_append, BitVec.getLsbD_append, BitVec.getLsbD_append]
  simp [hi]

end Fields

/-- Requests with the same word are the same request. -/
theorem Request.word_injective : Function.Injective Request.word := by
  rintro ⟨k, l, a, d⟩ ⟨k', l', a', d'⟩ h
  have hk := congrArg treqKind h
  have hl := congrArg treqLen h
  have ha := congrArg treqAddr h
  have hd := congrArg treqWdata h
  simp only [Request.word, treqKind_treqWord, treqLen_treqWord, treqAddr_treqWord,
    treqWdata_treqWord] at hk hl ha hd
  subst hl ha hd
  cases k <;> cases k' <;> simp_all [ReqKind.code]

/-- A completion word with a code is that code's pulse; the other word is refused. -/
theorem decodeCrsp_cases (w : BitVec 2) :
    (w = 3#2 ∧ decodeCrsp w = .reject .reservedCompletionCode) ∨
      ∃ c : Completion, w = c.code ∧ ∃ i, decodeCrsp w = .ok i ∧
        ∀ s, exec i s = .next (complete c s) := by
  have h : w = 0#2 ∨ w = 1#2 ∨ w = 2#2 ∨ w = 3#2 := by
    revert w; decide
  rcases h with rfl | rfl | rfl | rfl
  · exact .inr ⟨.done, rfl, .done, rfl, fun _ => rfl⟩
  · exact .inr ⟨.illegalOp, rfl, .illegalOp, rfl, fun _ => rfl⟩
  · exact .inr ⟨.illegalState, rfl, .illegalState, rfl, fun _ => rfl⟩
  · exact .inl ⟨rfl, rfl⟩

/-- What a command word does at an idle port. -/
inductive Accepts (s : State) : State → Prop where
  | reserved : Accepts s (raise (.protocol .illegalOp) s)
  | setup : Accepts s (acceptSetup (record (.cmd .setup) s))
  | update : Accepts s (acceptUpdate (record (.cmd .update) s))
  | sleep : Accepts s (acceptSleep (record (.cmd .sleep) s))

/-- A command word is accepted by an idle block, and held at the port of a busy one. -/
theorem exec_decodeCmd (w : BitVec 2) (s : State) :
    ∃ t, exec (decodeCmd w) s = .next t ∧
      ((s.seq = .idle ∧ Accepts s t) ∨ (s.seq ≠ .idle ∧ t = setHostCmds (s.hostCmds ++ [w]) s)) := by
  have h : w = 0#2 ∨ w = 1#2 ∨ w = 2#2 ∨ w = 3#2 := by
    revert w; decide
  by_cases hs : s.seq = .idle
  · rcases h with rfl | rfl | rfl | rfl
    · exact ⟨_, rfl, .inl ⟨hs, by simp only [atCommandPort_of_idle _ _ _ hs]; exact .reserved⟩⟩
    · exact ⟨_, rfl, .inl ⟨hs, by simp only [atCommandPort_of_idle _ _ _ hs]; exact .setup⟩⟩
    · exact ⟨_, rfl, .inl ⟨hs, by simp only [atCommandPort_of_idle _ _ _ hs]; exact .update⟩⟩
    · exact ⟨_, rfl, .inl ⟨hs, by simp only [atCommandPort_of_idle _ _ _ hs]; exact .sleep⟩⟩
  · rcases h with rfl | rfl | rfl | rfl <;>
      exact ⟨_, rfl, .inr ⟨hs, atCommandPort_of_busy _ _ _ hs⟩⟩

/-- An answer word: success with its data, or failure (R80). -/
theorem exec_decodeTrsp (w : BitVec 17) (s : State) :
    (∃ d, exec (decodeTrsp w) s = .next (takeAnswer (fun r => r.okAnswer d) (resumeOk d) s)) ∨
      exec (decodeTrsp w) s = .next (takeAnswer (fun _ => .err) resumeErr s) := by
  unfold decodeTrsp
  split
  · exact .inl ⟨_, rfl⟩
  · exact .inr rfl

/-- A selection word drives `csr_sel`. -/
theorem exec_decodeCsrSel (w : BitVec 2) (s : State) :
    exec (decodeCsrSel w) s = .next (selectCsr w s) := by
  have h : w = 0#2 ∨ w = 1#2 ∨ w = 2#2 ∨ w = 3#2 := by
    revert w; decide
  rcases h with rfl | rfl | rfl | rfl <;> rfl

end Sys2Proof.Machine
end

