-- ==== Sys2Proof/Laws/PerInstr.lean ====
section
/-! SUPPORT. The statements made for each instruction. -/

namespace Sys2Proof.Laws.EncodeFits

/-- The encoder's word fits the instruction's port (R76, R86). -/
def Statement (i : Instr) : Prop := encode i < 2 ^ i.format.width

theorem setup : Statement .setup := by unfold Statement; decide
theorem update : Statement .update := by unfold Statement; decide
theorem sleep : Statement .sleep := by unfold Statement; decide
theorem reservedCmd : Statement .reservedCmd := by unfold Statement; decide
theorem done : Statement .done := by unfold Statement; decide
theorem illegalOp : Statement .illegalOp := by unfold Statement; decide
theorem illegalState : Statement .illegalState := by unfold Statement; decide
theorem tWrite (len : BitVec 2) (addr : Byte) (wdata : Word) : Statement (.tWrite len addr wdata) :=
  (treqWord _ len addr wdata).isLt
theorem tRead (len : BitVec 2) (addr : Byte) (wdata : Word) : Statement (.tRead len addr wdata) :=
  (treqWord _ len addr wdata).isLt
theorem tRead16 (len : BitVec 2) (addr : Byte) (wdata : Word) : Statement (.tRead16 len addr wdata) :=
  (treqWord _ len addr wdata).isLt
theorem tWrite16 (len : BitVec 2) (addr : Byte) (wdata : Word) : Statement (.tWrite16 len addr wdata) :=
  (treqWord _ len addr wdata).isLt
theorem qSelConfig : Statement .qSelConfig := by unfold Statement; decide
theorem qRd2 : Statement .qRd2 := by unfold Statement; decide
theorem qWbConfig : Statement .qWbConfig := by unfold Statement; decide
theorem qRdVcell : Statement .qRdVcell := by unfold Statement; decide
theorem qRdSoc : Statement .qRdSoc := by unfold Statement; decide
theorem qSleep : Statement .qSleep := by unfold Statement; decide
theorem tOk (rdata : Word) : Statement (.tOk rdata) := (trspWord _ rdata).isLt
theorem tErr (rdata : Word) : Statement (.tErr rdata) := (trspWord _ rdata).isLt
theorem csrDevaddr : Statement .csrDevaddr := by unfold Statement; decide
theorem csrState : Statement .csrState := by unfold Statement; decide
theorem csrStatus : Statement .csrStatus := by unfold Statement; decide
theorem csrSinks : Statement .csrSinks := by unfold Statement; decide

end Sys2Proof.Laws.EncodeFits
end

