-- ==== Sys2Proof/Laws/Step.lean ====
section
/-! SUPPORT. What a step can do, said once. -/

namespace Sys2Proof.Machine

/-- The ways a step reaches a next state, each from the state with the last strobes ended. -/
inductive StepTo (s : State) : State → Prop where
  /-- `rst` is asserted. -/
  | reset (rest) : s.inputs = .rst :: rest →
      StepTo s (applyReset (setInputs rest (clearStrobes s)))
  /-- The completion pulse reaches the host. -/
  | complete (c : Completion) : s.rsp = some c.code → StepTo s (complete c (clearStrobes s))
  /-- The transport takes the offered request. -/
  | issue (r : Request) : s.rsp = none → s.tReq = some r.word → s.tReady = true →
      StepTo s (issue r (clearStrobes s))
  /-- The power-source reading. -/
  | sample : s.rsp = none → s.seq = .updPs → StepTo s (powerSample (clearStrobes s))
  /-- A command the host holds is accepted. -/
  | held (w rest t) : s.rsp = none → s.seq = .idle → s.hostCmds = w :: rest →
      Accepts (setHostCmds rest (clearStrobes s)) t → StepTo s t
  /-- A command arrives at an idle port. -/
  | command (w rest t) : s.rsp = none → s.seq = .idle → s.inputs = .cmd w :: rest →
      Accepts (setInputs rest (clearStrobes s)) t → StepTo s t
  /-- A command arrives at a busy port and waits there. -/
  | wait (w rest) : s.rsp = none → s.seq ≠ .idle → s.seq ≠ .updPs → s.inputs = .cmd w :: rest →
      StepTo s (setHostCmds (s.hostCmds ++ [w]) (setInputs rest (clearStrobes s)))
  /-- The transport answers `Ok`. -/
  | ok (d w rest) : s.rsp = none → s.seq ≠ .updPs → s.inputs = .answer w :: rest →
      StepTo s (takeAnswer (fun r => r.okAnswer d) (resumeOk d) (setInputs rest (clearStrobes s)))
  /-- The transport answers `Err`. -/
  | err (w rest) : s.rsp = none → s.seq ≠ .updPs → s.inputs = .answer w :: rest →
      StepTo s (takeAnswer (fun _ => .err) resumeErr (setInputs rest (clearStrobes s)))
  /-- The host selects an introspection register. -/
  | csr (w rest) : s.rsp = none → s.inputs = .csr w :: rest →
      StepTo s (selectCsr w (setInputs rest (clearStrobes s)))
  /-- The transport drives `t_req_ready`. -/
  | ready (b rest) : s.rsp = none → s.inputs = .ready b :: rest →
      StepTo s (setReady b (setInputs rest (clearStrobes s)))
  /-- The line's level changes. -/
  | din (b rest) : s.rsp = none → s.inputs = .din b :: rest →
      StepTo s (setDin b (setInputs rest (clearStrobes s)))
  /-- Nothing happens. -/
  | idle : s.rsp = none → s.inputs = [] → s.tReq = none → s.outstanding = none →
      StepTo s (clearStrobes s)

variable {s t : State}

/-- The environment's part of `step_cases`. -/
theorem nextInput_cases (hr : s.rsp = none) (hp : s.seq ≠ .updPs)
    (h : runAction (nextInput (clearStrobes s)) = .next t) : StepTo s t := by
  unfold nextInput at h
  split at h
  next w rest hi =>
    obtain ⟨u, hu, hc⟩ := exec_decodeCmd w (setInputs rest (clearStrobes s))
    simp only [runAction, runWord, decode_cmd_toNat, hu, Host.Outcome.next.injEq] at h
    subst h
    rcases hc with ⟨hs, ha⟩ | ⟨hs, rfl⟩
    · exact .command w rest _ hr hs hi ha
    · exact .wait w rest hr hs hp hi
  next w rest hi =>
    simp only [runAction, runWord, decode_csrSel_toNat, exec_decodeCsrSel, Host.Outcome.next.injEq] at h
    subst h; exact .csr w rest hr hi
  next w rest hi =>
    rcases exec_decodeTrsp w (setInputs rest (clearStrobes s)) with ⟨d, hd⟩ | hd <;>
      simp only [runAction, runWord, decode_trsp_toNat, hd, Host.Outcome.next.injEq] at h <;> subst h
    · exact .ok d w rest hr hp hi
    · exact .err w rest hr hp hi
  next b rest hi => simp only [runAction, Host.Outcome.next.injEq] at h; subst h; exact .ready b rest hr hi
  next b rest hi => simp only [runAction, Host.Outcome.next.injEq] at h; subst h; exact .din b rest hr hi
  next rest hi => simp only [runAction, Host.Outcome.next.injEq] at h; subst h; exact .reset rest hi
  next hi =>
    by_cases h1 : s.tReq.isSome
    · simp [runAction, h1] at h
    by_cases h2 : s.outstanding.isSome
    · simp [runAction, h1, h2] at h
    · simp only [clearStrobes_tReq, clearStrobes_outstanding, h1, h2, runAction, Bool.false_eq_true,
        if_false, Host.Outcome.next.injEq] at h
      subst h
      exact .idle hr hi (by simpa using h1) (by simpa using h2)

/-- THE INVERSION LEMMA: a step that answers a next state is one of the cases of `StepTo`. -/
theorem step_cases (h : step s = .next t) : StepTo s t := by
  unfold step nextAction at h
  split at h
  next rest hi => simp only [runAction, Host.Outcome.next.injEq] at h; subst h; exact .reset rest hi
  unfold nextTransfer at h
  split at h
  next w hw =>
    simp only [clearStrobes_rsp] at hw
    rcases decodeCrsp_cases w with ⟨-, hd⟩ | ⟨c, rfl, i, hd, he⟩
    · simp [runAction, runWord, hd] at h
    · simp only [runAction, runWord, decode_crsp_toNat, hd, he, Host.Outcome.next.injEq] at h
      subst h; exact .complete c hw
  next hr =>
    simp only [clearStrobes_rsp] at hr
    have sample_or : runAction (nextSample (clearStrobes s)) = .next t → StepTo s t := by
      intro h
      unfold nextSample at h
      split at h
      next hp => simp only [runAction, Host.Outcome.next.injEq] at h; subst h; exact .sample hr hp
      next hp =>
        unfold nextCommand at h
        split at h
        next w rest hw =>
          split at h
          next hs =>
            obtain ⟨u, hu, hc⟩ := exec_decodeCmd w (setHostCmds rest (clearStrobes s))
            simp only [runAction, runWord, decode_cmd_toNat, hu, Host.Outcome.next.injEq] at h
            subst h
            rcases hc with ⟨_, ha⟩ | ⟨hn, _⟩
            · exact .held w rest _ hr hs hw ha
            · exact absurd hs hn
          · exact nextInput_cases hr hp h
        · exact nextInput_cases hr hp h
    unfold nextRequest at h
    split at h
    next w hw =>
      split at h
      next hrd =>
        obtain ⟨r, rfl, he⟩ := exec_decodeTreq w
        simp only [runAction, runWord, decode_treq_toNat, he, Host.Outcome.next.injEq] at h
        subst h; exact .issue r hr hw hrd
      · exact sample_or h
    · exact sample_or h

/-- A run of `n + 1` steps is a step and a run of `n`. -/
theorem run_succ (n : Nat) (h : step s = .next t) :
    Host.Core.run Sys2Proof.core (n + 1) s = Host.Core.run Sys2Proof.core n t := by
  simp only [Host.Core.run]
  rw [show Sys2Proof.core.step s = .next t from h]

theorem run_zero : Host.Core.run Sys2Proof.core 0 s = .next s := rfl

end Sys2Proof.Machine
end

