-- ==== Sys2Proof/Laws/Rest.lean ====
section
/-! SUPPORT. Which action a step does, for a block with no reset asserted and for a block at rest. -/

namespace Sys2Proof.Machine

/-- Without an asserted `rst`, the block's own transfers come first. -/
theorem nextAction_of_no_reset {s : State} (h : ¬ s.resetAsserted) :
    nextAction (clearStrobes s) = nextTransfer (clearStrobes s) := by
  unfold nextAction
  split
  next rest hi => exact absurd ⟨rest, hi⟩ h
  · rfl

/-- At rest, and without an asserted `rst`, a step is what the environment does next. -/
theorem step_of_atRest {s : State} (h : s.AtRest) (hr : ¬ s.resetAsserted) :
    step s = runAction (nextInput (clearStrobes s)) := by
  obtain ⟨h1, h2, h3, h4⟩ := h
  have sample : nextSample (clearStrobes s) = nextInput (clearStrobes s) := by
    unfold nextSample nextCommand
    rw [if_neg (by simpa using h4)]
    split
    next w rest hw =>
      rcases h3 with h3 | h3
      · simp [h3] at hw
      · rw [if_neg (by simpa using h3)]
    · rfl
  rw [step, nextAction_of_no_reset hr]
  unfold nextTransfer nextRequest
  simp only [clearStrobes_rsp, h1]
  rcases h2 with h2 | h2
  · simp only [clearStrobes_tReq, h2, sample]
  · split <;> simp [h2, sample]

end Sys2Proof.Machine
end

