-- ==== Sys2Proof/Tests/Slice0.lean ====
section
/-! SUPPORT. Tests from the spec's own words and vectors (30_encoding.md, 95_test_vectors.md), and for each
obligation with hypotheses a witness that meets them. -/

namespace Sys2Proof.Tests

open Sys2Proof Sys2Proof.Machine

/-! ## WellFormed refuses, one ill-formed term for each check (R78) -/

theorem test_wf_write_len_zero : WellFormed (.tWrite 0#2 0x00#8 0x0000#16) = false := by decide
theorem test_wf_write_len_three : WellFormed (.tWrite 3#2 0x00#8 0x0000#16) = false := by decide
theorem test_wf_write_addr : WellFormed (.tWrite 2#2 0x0C#8 0x1234#16) = false := by decide
theorem test_wf_write_beyond_len : WellFormed (.tWrite 1#2 0x00#8 0x1234#16) = false := by decide
theorem test_wf_write_is_q_sel_config : WellFormed (.tWrite 1#2 0x00#8 0x0C00#16) = false := by decide
theorem test_wf_read_len : WellFormed (.tRead 0#2 0x00#8 0x0000#16) = false := by decide
theorem test_wf_read_addr : WellFormed (.tRead 1#2 0x01#8 0x0000#16) = false := by decide
theorem test_wf_read_wdata : WellFormed (.tRead 1#2 0x00#8 0x0001#16) = false := by decide
theorem test_wf_read_is_q_rd2 : WellFormed (.tRead 2#2 0x00#8 0x0000#16) = false := by decide
theorem test_wf_read16_len : WellFormed (.tRead16 1#2 0x08#8 0x0000#16) = false := by decide
theorem test_wf_read16_wdata : WellFormed (.tRead16 0#2 0x08#8 0x0100#16) = false := by decide
theorem test_wf_read16_is_q_rd_vcell : WellFormed (.tRead16 0#2 0x02#8 0x0000#16) = false := by decide
theorem test_wf_read16_is_q_rd_soc : WellFormed (.tRead16 0#2 0x04#8 0x0000#16) = false := by decide
theorem test_wf_write16_len : WellFormed (.tWrite16 2#2 0x0C#8 0x9000#16) = false := by decide
theorem test_wf_write16_is_q_wb_config : WellFormed (.tWrite16 0#2 0x0C#8 0x971C#16) = false := by decide
theorem test_wf_write16_is_q_sleep : WellFormed (.tWrite16 0#2 0x0C#8 0x979C#16) = false := by decide
theorem test_wf_admits : WellFormed (.tWrite16 0#2 0x0C#8 0x9F9C#16) = true := by decide

/-! ## Decoding: every constructor, from its word written out bit by bit (R77, R78, R80 to R82, R40) -/

theorem test_decode_setup : decode .cmd 0b01 = .ok .setup := by decide
theorem test_decode_update : decode .cmd 0b10 = .ok .update := by decide
theorem test_decode_sleep : decode .cmd 0b11 = .ok .sleep := by decide
theorem test_decode_reservedCmd : decode .cmd 0b00 = .ok .reservedCmd := by decide
theorem test_decode_done : decode .crsp 0b00 = .ok .done := by decide
theorem test_decode_illegalOp : decode .crsp 0b01 = .ok .illegalOp := by decide
theorem test_decode_illegalState : decode .crsp 0b10 = .ok .illegalState := by decide
theorem test_decode_tWrite : decode .treq 0b00_10_00000000_0001001000110100 =
    .ok (.tWrite 2#2 0x00#8 0x1234#16) := by decide
theorem test_decode_tRead : decode .treq 0b01_01_00000000_0000000000000000 =
    .ok (.tRead 1#2 0x00#8 0x0000#16) := by decide
theorem test_decode_tRead16 : decode .treq 0b10_00_00001000_0000000000000000 =
    .ok (.tRead16 0#2 0x08#8 0x0000#16) := by decide
theorem test_decode_tWrite16 : decode .treq 0b11_00_00001100_1001111110011100 =
    .ok (.tWrite16 0#2 0x0C#8 0x9F9C#16) := by decide
theorem test_decode_qSelConfig : decode .treq 0b00_01_00000000_0000110000000000 = .ok .qSelConfig := by
  decide
theorem test_decode_qRd2 : decode .treq 0b01_10_00000000_0000000000000000 = .ok .qRd2 := by decide
theorem test_decode_qWbConfig : decode .treq 0b11_00_00001100_1001011100011100 = .ok .qWbConfig := by
  decide
theorem test_decode_qRdVcell : decode .treq 0b10_00_00000010_0000000000000000 = .ok .qRdVcell := by decide
theorem test_decode_qRdSoc : decode .treq 0b10_00_00000100_0000000000000000 = .ok .qRdSoc := by decide
theorem test_decode_qSleep : decode .treq 0b11_00_00001100_1001011110011100 = .ok .qSleep := by decide
theorem test_decode_tOk : decode .trsp 0b1_1001011110011100 = .ok (.tOk 0x979C#16) := by decide
theorem test_decode_tErr : decode .trsp 0b0_1000000000000001 = .ok (.tErr 0x8001#16) := by decide
theorem test_decode_csrDevaddr : decode .csrSel 0b00 = .ok .csrDevaddr := by decide
theorem test_decode_csrState : decode .csrSel 0b01 = .ok .csrState := by decide
theorem test_decode_csrStatus : decode .csrSel 0b10 = .ok .csrStatus := by decide
theorem test_decode_csrSinks : decode .csrSel 0b11 = .ok .csrSinks := by decide

theorem test_decode_rejects_rsp_code_three : decode .crsp 0b11 = .reject .reservedCompletionCode := by
  decide
theorem test_decode_rejects_wide_cmd : decode .cmd 0b100 = .reject .tooWide := by decide
theorem test_decode_rejects_wide_treq : decode .treq 0x10000000 = .reject .tooWide := by decide
theorem test_decode_rejects_wide_trsp : decode .trsp 0x20000 = .reject .tooWide := by decide

/-! ## Numbers (95_test_vectors.md Part 2) -/

theorem test_idMatch_true : [0x971C#16, 0x973C#16, 0x975C#16, 0x977C#16, 0x979C#16, 0x97BC#16, 0x97DC#16,
    0x97FC#16].all idMatch = true := by decide
theorem test_idMatch_false : [0x9F9C#16, 0x970C#16, 0x971D#16, 0x97FF#16, 0x961C#16, 0x1C97#16, 0x1234#16,
    0x0000#16, 0xFFFF#16].any idMatch = false := by decide
theorem test_voltWord_vectors : [0x000F#16, 0x0010#16, 0x0D0F#16, 0x1234#16, 0x7FF0#16, 0x8000#16, 0x971C#16,
    0xA5A0#16, 0xC800#16, 0xD200#16, 0xFFFF#16].map voltWord =
    [0x00000000#32, 0x3AA3D70A#32, 0x3E851EB8#32, 0x3EBA3D71#32, 0x4023C28F#32, 0x4023D70A#32,
      0x40415C29#32, 0x40540000#32, 0x40800000#32, 0x40866666#32, 0x40A3CCCD#32] := by decide
theorem test_socWord_vectors : [0x0000#16, 0x0001#16, 0x0080#16, 0x00FF#16, 0x0100#16, 0x0A1B#16, 0x3240#16,
    0x4D80#16, 0x5A00#16, 0x6400#16, 0x64FF#16, 0x971C#16, 0xFF00#16, 0xFFFF#16].map socWord =
    [0x00000000#32, 0x3B7FFBCE#32, 0x3EFFFBCE#32, 0x3F7EFBD2#32, 0x3F800000#32, 0x4121AFF9#32,
      0x4248FFFC#32, 0x429AFFFC#32, 0x42B40000#32, 0x42C80000#32, 0x42C9FDF8#32, 0x43171C00#32, 0x437F0000#32,
      0x437FFEFC#32] := by decide
theorem test_wireBytes16 : wireBytes16 configDefault = [0x97#8, 0x1C#8] := by decide
theorem test_message_texts : [StMsg.unrecognised, .sleepResetFailed, .vcell, .soc].map StMsg.text =
    [some "unrecognised", some "sleep reset failed", some "Unable to read VCELL",
      some "Unable to read SOC"] := by decide
theorem test_sleepValue : sleepValue = 0x979C#16 := by decide

/-! ## Benches -/

/-- A block at this lifecycle state and position, with all sinks, nothing on its ports, and these inputs
to come. -/
def bench (lc : Lifecycle) (q : SeqPos) (inputs : List PortInput) : State :=
  { State.reset with
    lc := lc
    pinCfg := lc == .ready
    stKind := if lc = .failed then .error else .ok
    stMsg := if lc = .failed then .unrecognised else .none
    seq := q
    cfg := ⟨0x0B#7, 1, true, true, true, true⟩
    dinLevel := true
    inputs := inputs }

/-- The position's request is outstanding. -/
def waiting (lc : Lifecycle) (q : SeqPos) (inputs : List PortInput) : State :=
  { bench lc q inputs with outstanding := q.request }

/-- The position's request is offered. -/
def offering (lc : Lifecycle) (q : SeqPos) (inputs : List PortInput) : State :=
  { bench lc q inputs with tReq := q.request.map Request.word }

/-- The instance with these sinks. -/
def withSinks (v soc ps : Bool) (s : State) : State :=
  { s with cfg := { s.cfg with sinkV := v, sinkSoc := soc, sinkPs := ps } }

/-- A next state with a property. -/
def nextIs (o : Host.Outcome State Fault Refusal) (p : State → Bool) : Bool :=
  match o with
  | .next t => p t
  | .fault _ => false
  | .refused _ => false

theorem next_of_nextIs {o : Host.Outcome State Fault Refusal} {p : State → Bool} (h : nextIs o p = true) :
    ∃ t, o = .next t ∧ p t = true := by
  cases o with
  | next t => exact ⟨t, rfl, h⟩
  | fault r => cases h
  | refused r => cases h

theorem inv_bench_idle (lc : Lifecycle) (l : List PortInput) (h : lc ≠ .validating) :
    Inv (bench lc .idle l) := by
  constructor <;> constructor <;> cases lc <;>
    simp_all [bench, State.reset, SeqPos.inSetup, SeqPos.request, RegistersReset]

theorem inv_bench_sample (l : List PortInput) : Inv (bench .ready .updPs l) := by
  constructor <;> constructor <;> simp [bench, State.reset, SeqPos.inSetup, SeqPos.request]

theorem inv_waiting_setup (q : SeqPos) (l : List PortInput) (h : q.inSetup = true) :
    Inv (waiting .validating q l) := by
  constructor <;> constructor <;> cases q <;>
    simp_all [waiting, bench, State.reset, SeqPos.inSetup, SeqPos.request]

theorem inv_waiting_ready (q : SeqPos) (l : List PortInput) (h : q.inSetup = false) :
    Inv (waiting .ready q l) := by
  constructor <;> constructor <;> cases q <;>
    simp_all [waiting, bench, State.reset, SeqPos.inSetup, SeqPos.request]

theorem inv_offering_ready (q : SeqPos) (l : List PortInput) (h : q.inSetup = false) :
    Inv (offering .ready q l) := by
  constructor <;> constructor <;> cases q <;>
    simp_all [offering, bench, State.reset, SeqPos.inSetup, SeqPos.request]

/-! ## The host's two questions -/

theorem test_tableWord_setup : decodeTableWord 8 0x1 = some .setup := by decide
theorem test_tableWord_qSleep : decodeTableWord 32 0xC0C979C = some .qSleep := by decide
theorem test_tableWord_tOk : decodeTableWord 24 0x1979C = some (.tOk 0x979C#16) := by decide
theorem test_fetch_setup : nextIs (step (State.reset.withFetchWord 8 0x1))
    (fun t => t.tReq == some qSelConfigWord && t.trace == [.cmd .setup]) = true := by decide
theorem test_fetch_request : nextIs (step (State.reset.withFetchWord 32 0x8040000))
    (fun t => t.outstanding == some reqRdSoc) = true := by decide

/-! ## One step of each instruction (95_test_vectors.md Parts 2 and 3) -/

theorem test_setup_starts : nextIs (exec .setup (bench .uninit .idle []))
    (fun t => t.lc == .validating && t.seq == .setupSel && t.tReq == some 0x1000C00#28) = true := by decide
theorem test_setup_when_failed : nextIs (exec .setup (bench .failed .idle []))
    (fun t => t.rsp == some 0b10#2 && t.lc == .failed) = true := by decide
theorem test_update_starts : nextIs (exec .update (bench .ready .idle []))
    (fun t => t.seq == .updV && t.tReq == some 0x8020000#28) = true := by decide
theorem test_update_when_uninit : nextIs (exec .update (bench .uninit .idle []))
    (fun t => t.rsp == some 0b10#2 && t.tReq == none) = true := by decide
theorem test_sleep_starts : nextIs (exec .sleep (bench .ready .idle []))
    (fun t => t.seq == .slpWr && t.tReq == some 0xC0C979C#28) = true := by decide
theorem test_sleep_when_failed : nextIs (exec .sleep (bench .failed .idle []))
    (fun t => t.rsp == some 0b00#2 && t.seq == .idle && t.tReq == none) = true := by decide
theorem test_reservedCmd_answers : nextIs (exec .reservedCmd (bench .ready .idle []))
    (fun t => t.rsp == some 0b01#2 && t.trace == []) = true := by decide
theorem test_reservedCmd_waits : nextIs (exec .reservedCmd (waiting .ready .slpWr []))
    (fun t => t.rsp == none && t.hostCmds == [0b00#2]) = true := by decide
theorem test_done : nextIs (exec .done { bench .ready .idle [] with rsp := some 0#2 })
    (fun t => t.rsp == none && t.trace == [.done .done]) = true := by decide
theorem test_illegalOp : nextIs (exec .illegalOp { bench .ready .idle [] with rsp := some 1#2 })
    (fun t => t.rsp == none && t.trace == [.done .illegalOp]) = true := by decide
theorem test_illegalState : nextIs (exec .illegalState { bench .ready .idle [] with rsp := some 2#2 })
    (fun t => t.rsp == none && t.trace == [.done .illegalState]) = true := by decide
theorem test_tWrite : nextIs (exec (.tWrite 2#2 0x00#8 0x1234#16) (bench .ready .idle []))
    (fun t => (t.outstanding.bind Request.primitive) == some (.busWrite [0x12#8, 0x34#8])) = true := by
  decide
theorem test_tRead : nextIs (exec (.tRead 1#2 0x00#8 0x0000#16) (bench .ready .idle []))
    (fun t => (t.outstanding.bind Request.primitive) == some (.busRead 1)) = true := by decide
theorem test_tRead16 : nextIs (exec (.tRead16 0#2 0x08#8 0x0000#16) (bench .ready .idle []))
    (fun t => (t.outstanding.bind Request.primitive) == some (.memRead 0x08#8)) = true := by decide
theorem test_tWrite16 : nextIs (exec (.tWrite16 0#2 0x0C#8 0x9F9C#16) (bench .ready .idle []))
    (fun t => (t.outstanding.bind Request.primitive) == some (.memWrite 0x0C#8 0x9F9C#16)) = true := by
  decide
theorem test_qSelConfig : nextIs (step (offering .validating .setupSel []))
    (fun t => t.tReq == none && t.outstanding == some ⟨.write, 1#2, 0x00#8, 0x0C00#16⟩) = true := by decide
theorem test_qRd2 : nextIs (step (offering .validating .setupRd []))
    (fun t => t.tReq == none && t.outstanding == some ⟨.read, 2#2, 0x00#8, 0x0000#16⟩) = true := by decide
theorem test_qWbConfig : nextIs (step (offering .validating .setupWb []))
    (fun t => t.outstanding == some ⟨.write16, 0#2, 0x0C#8, 0x971C#16⟩) = true := by decide
theorem test_qRdVcell : nextIs (step (offering .ready .updV []))
    (fun t => t.outstanding == some ⟨.read16, 0#2, 0x02#8, 0x0000#16⟩) = true := by decide
theorem test_qRdSoc : nextIs (step (offering .ready .updSoc []))
    (fun t => t.outstanding == some ⟨.read16, 0#2, 0x04#8, 0x0000#16⟩) = true := by decide
theorem test_qSleep : nextIs (step (offering .ready .slpWr []))
    (fun t => t.trace == [.tReq 0x0B#7 ⟨.write16, 0#2, 0x0C#8, 0x979C#16⟩]) = true := by decide
theorem test_tOk_soc : nextIs (exec (.tOk 0x4D80#16)
      { waiting .ready .updSoc [] with stKind := .warning, stMsg := .vcell })
    (fun t => t.socOut == ⟨true, 0x429AFFFC#32⟩ && t.stKind == .ok && t.stMsg == .none &&
      t.seq == .updPs) = true := by decide
theorem test_tOk_swapped_bytes : nextIs (exec (.tOk 0x1C97#16) (waiting .validating .setupRd []))
    (fun t => t.lc == .failed && t.stMsg == .unrecognised && t.tReq == none) = true := by decide
theorem test_tErr_writeBack : nextIs (exec (.tErr 0xFFFF#16) (waiting .validating .setupWb []))
    (fun t => t.lc == .failed && t.stKind == .error && t.stMsg == .sleepResetFailed && !t.pinCfg) = true := by
  decide
theorem test_tErr_sleep : nextIs (exec (.tErr 0#16) (waiting .ready .slpWr []))
    (fun t => !t.asleep && t.stMsg == .sleepWrite && t.lc == .ready && t.rsp == some 0#2) = true := by decide
theorem test_csrDevaddr : nextIs (exec .csrDevaddr (bench .ready .idle []))
    (fun t => t.csrRdata == 0x000B#16) = true := by decide
theorem test_csrState_asleep : nextIs (exec .csrState { bench .ready .idle [] with asleep := true })
    (fun t => t.csrRdata == 0x001A#16) = true := by decide
theorem test_csrState_failed : nextIs (exec .csrState (bench .failed .idle []))
    (fun t => t.csrRdata == 0x0007#16) = true := by decide
theorem test_csrStatus : nextIs (exec .csrStatus
      { bench .ready .idle [] with stKind := .warning, stMsg := .sleepWrite })
    (fun t => t.csrRdata == 0x0015#16) = true := by decide
theorem test_csrSinks : nextIs (exec .csrSinks { bench .ready .idle [] with
      voltOut := ⟨true, 0#32⟩, socOut := ⟨true, 0#32⟩, psrcOut := ⟨true, true⟩ })
    (fun t => t.csrRdata == 0x007F#16) = true := by decide
theorem test_csrSinks_unread_level : nextIs (exec .csrSinks
      (withSinks false true false { bench .ready .idle [] with
        socOut := ⟨true, 0#32⟩, psrcOut := ⟨false, true⟩ }))
    (fun t => t.csrRdata == 0x0012#16) = true := by decide

/-! ## Witnesses: for each obligation with hypotheses, states and operands that meet them -/

theorem witness_DecodeOfEncode : WellFormed (.tWrite16 0#2 0xFF#8 0xFFFF#16) = true ∧
    WellFormed (.tOk 0xFFFF#16) = true := by decide

theorem witness_EncodeOfDecode : decode .treq 0xFFFFFFF = .ok (.tWrite16 3#2 0xFF#8 0xFFFF#16) ∧
    decode .crsp 2 = .ok .illegalState := by decide

theorem not_resetAsserted {s : State} (h : s.inputs.head? ≠ some .rst) : ¬ s.resetAsserted := by
  rintro ⟨rest, hr⟩
  simp [hr] at h

theorem witness_StepRuns_crsp : ¬ { bench .ready .idle [.cmd 1#2, .rst] with rsp := some 2#2 }.resetAsserted ∧
    { bench .ready .idle [.cmd 1#2, .rst] with rsp := some 2#2 }.rsp = some 2#2 ∧
    decode .crsp (2#2).toNat = .ok .illegalState :=
  ⟨not_resetAsserted (by decide), by decide⟩

theorem witness_StepRuns_treq : ¬ (offering .ready .updV []).resetAsserted ∧
    (offering .ready .updV []).rsp = none ∧ (offering .ready .updV []).tReq = some 0x8020000#28 ∧
    (offering .ready .updV []).tReady = true ∧ decode .treq (0x8020000#28).toNat = .ok .qRdVcell :=
  ⟨not_resetAsserted (by decide), by decide⟩

theorem witness_StepRuns_held : ¬ { bench .ready .idle [] with hostCmds := [3#2] }.resetAsserted ∧
    { bench .ready .idle [] with hostCmds := [3#2] }.rsp = none ∧
    { bench .ready .idle [] with hostCmds := [3#2] }.tReq = none ∧
    { bench .ready .idle [] with hostCmds := [3#2] }.hostCmds = 3#2 :: [] ∧
    decode .cmd (3#2).toNat = .ok .sleep :=
  ⟨not_resetAsserted (by decide), by decide⟩

theorem atRest_bench (lc : Lifecycle) (l : List PortInput) : (bench lc .idle l).AtRest :=
  ⟨rfl, .inl rfl, .inl rfl, by simp [bench]⟩

theorem atRest_waiting (lc : Lifecycle) (l : List PortInput) : (waiting lc .slpWr l).AtRest :=
  ⟨rfl, .inl rfl, .inl rfl, by simp [waiting, bench]⟩

/-- The three ports the environment drives, and the steps no word causes. -/
theorem witness_StepRuns_inputs :
    ((bench .uninit .idle [.cmd 1#2]).AtRest ∧ (bench .uninit .idle [.cmd 1#2]).inputs = [.cmd 1#2] ∧
      decode .cmd (1#2).toNat = .ok .setup) ∧
    ((waiting .ready .slpWr [.answer 0x1FFFF#17]).AtRest ∧
      decode .trsp (0x1FFFF#17).toNat = .ok (.tOk 0xFFFF#16)) ∧
    ((bench .failed .idle [.csr 3#2]).AtRest ∧ decode .csrSel (3#2).toNat = .ok .csrSinks) :=
  ⟨⟨atRest_bench _ _, by decide⟩, ⟨atRest_waiting _ _, by decide⟩, ⟨atRest_bench _ _, by decide⟩⟩

theorem witness_StepWithoutAWord :
    ((bench .ready .idle [.ready false]).AtRest ∧
      (bench .ready .idle [.ready false]).inputs = .ready false :: []) ∧
    ((bench .ready .idle [.din true]).AtRest ∧ (bench .ready .idle [.din true]).inputs = .din true :: []) ∧
    ((bench .ready .idle []).AtRest ∧ (bench .ready .idle []).inputs = [] ∧
      (bench .ready .idle []).tReq = none ∧ (bench .ready .idle []).outstanding = none) :=
  ⟨⟨atRest_bench _ _, rfl⟩, ⟨atRest_bench _ _, rfl⟩, ⟨atRest_bench _ _, rfl, rfl, rfl⟩⟩

theorem witness_UnansweredRequest : Inv (waiting .ready .slpWr []) ∧
    (waiting .ready .slpWr []).outstanding ≠ none ∧ (waiting .ready .slpWr []).inputs = [] :=
  ⟨inv_waiting_ready _ _ rfl, by decide, rfl⟩

/-- Inv does not speak of `t_req_ready`. -/
theorem inv_setReady {s : State} (h : Inv s) (b : Bool) : Inv (setReady b s) :=
  ⟨{ h.mode with }, { h.port with }⟩

theorem witness_StepStops :
    (Inv (waiting .ready .updV []) ∧ step (waiting .ready .updV []) = .fault .answerMissing) ∧
    (Inv (setReady false (offering .ready .updV [])) ∧
      step (setReady false (offering .ready .updV [])) = .fault .requestNotTaken) :=
  ⟨⟨inv_waiting_ready _ _ rfl, rfl⟩, ⟨inv_setReady (inv_offering_ready _ _ rfl) _, rfl⟩⟩

theorem witness_ResetLine : (waiting .ready .slpWr [.rst, .cmd 1#2]).inputs = .rst :: [.cmd 1#2] := rfl

theorem witness_StepKeepsInvariant : Inv (waiting .validating .setupWb [.answer 0x10000#17]) ∧
    ∃ t, step (waiting .validating .setupWb [.answer 0x10000#17]) = .next t ∧ (t.lc == .ready) = true :=
  ⟨inv_waiting_setup _ _ rfl, next_of_nextIs (by decide)⟩

/-- Every bench in `UNINIT` is a state right after reset. -/
theorem witness_Reachable (l : List PortInput) : Reachable (bench .uninit .idle l) :=
  .start (bench .uninit .idle l)

/-- A state of a run in which a request is issued. -/
theorem witness_OneRequest_and_EveryRequest : ∃ s t, Reachable s ∧ step s = .next t ∧
    (decide (Event.tReq 0x0B#7 reqSelConfig ∈ t.trace.drop s.trace.length)) = true := by
  obtain ⟨s, hs, h⟩ := next_of_nextIs (o := step (bench .uninit .idle [.cmd 1#2]))
    (p := fun s => nextIs (step s)
      (fun t => decide (Event.tReq 0x0B#7 reqSelConfig ∈ t.trace.drop s.trace.length))) (by decide)
  obtain ⟨t, ht, h⟩ := next_of_nextIs h
  exact ⟨s, t, .next _ _ (witness_Reachable _) hs, ht, h⟩

/-- The premises of R46's implications, each in a state with the invariant; `READY` and `FAILED` are
reached by the answers of 95_test_vectors.md 2.4. -/
theorem witness_ModeRules :
    (Inv (bench .ready .idle []) ∧ (bench .ready .idle []).pinCfg = true) ∧
    (Inv (bench .failed .idle []) ∧ (bench .failed .idle []).stKind = .error) ∧
    (Inv (bench .uninit .idle []) ∧ (bench .uninit .idle []).lc = .uninit) ∧
    (Inv (waiting .validating .setupRd []) ∧ (waiting .validating .setupRd []).lc = .validating) :=
  ⟨⟨inv_bench_idle _ _ (by decide), rfl⟩, ⟨inv_bench_idle _ _ (by decide), rfl⟩,
    ⟨inv_bench_idle _ _ (by decide), rfl⟩, ⟨inv_waiting_setup _ _ rfl, rfl⟩⟩

/-- CommandLegality, BusyPortTakesNoCommand, SetupStartsValidation, SleepStartsOneWrite. -/
theorem witness_CommandLegality :
    ((bench .uninit .idle []).seq = .idle ∧ (bench .uninit .idle []).lc = .uninit) ∧
    ((bench .ready .idle []).seq = .idle ∧ (bench .ready .idle []).lc = .ready) ∧
    ((bench .failed .idle []).seq = .idle ∧ (bench .failed .idle []).lc = .failed) ∧
    (Inv (waiting .validating .setupSel []) ∧ (waiting .validating .setupSel []).lc = .validating) ∧
    (waiting .ready .slpWr []).seq ≠ .idle :=
  ⟨⟨rfl, rfl⟩, ⟨rfl, rfl⟩, ⟨rfl, rfl⟩, ⟨inv_waiting_setup _ _ rfl, rfl⟩, by decide⟩

/-- UpdateStartsTheFirstPresentReading: each clause. -/
theorem witness_UpdateStarts :
    (bench .ready .idle []).cfg.sinkV = true ∧
    ((withSinks false true false (bench .ready .idle [])).cfg.sinkV = false ∧
      (withSinks false true false (bench .ready .idle [])).cfg.sinkSoc = true) ∧
    (withSinks false false true (bench .ready .idle [])).cfg.sinkPs = true ∧
    (withSinks false false false (bench .ready .idle [])).cfg.sinkPs = false ∧
    (withSinks false false false (bench .ready .idle [])).lc = .ready := by decide

theorem witness_Unsolicited : (bench .ready .idle []).outstanding = none := rfl

/-- AnswerWhereNoneIsAwaited, at both positions. -/
theorem witness_AnswerWhereNoneIsAwaited :
    { bench .ready .idle [] with outstanding := some reqSleep }.outstanding = some reqSleep ∧
    { bench .ready .idle [] with outstanding := some reqSleep }.seq = .idle ∧
    { bench .ready .updPs [] with outstanding := some reqRdSoc }.seq = .updPs := by decide

theorem witness_IdleValidating : (bench .validating .idle []).seq = .idle ∧
    (bench .validating .idle []).lc = .validating := by decide

/-- SetupGoesOnWithGoodAnswers and SetupFailsOnErrors: each clause, at a match with bits 7 to 5 set and at
a mismatch in bit 0. -/
theorem witness_SetupAnswers :
    ((waiting .validating .setupSel []).outstanding = some reqSelConfig ∧
      (waiting .validating .setupSel []).seq = .setupSel) ∧
    ((waiting .validating .setupRd []).outstanding = some reqRd2 ∧
      (waiting .validating .setupRd []).seq = .setupRd ∧
      (0x97#8 ++ 0xFC#8) &&& 0xFF1F#16 = 0x971C#16 ∧ (0x97#8 ++ 0x1D#8) &&& 0xFF1F#16 ≠ 0x971C#16) ∧
    ((waiting .validating .setupWb []).outstanding = some reqWbConfig ∧
      (waiting .validating .setupWb []).seq = .setupWb) := by decide

/-- VoltageReadingSucceeds, SocReadingSucceeds and FailedReadingKeepsPublishedValues: each position, each
status and each choice of sinks. -/
theorem witness_Readings :
    ((waiting .ready .updV []).outstanding = some reqRdVcell ∧ (waiting .ready .updV []).seq = .updV ∧
      (waiting .ready .updV []).stKind ≠ .warning ∧ (waiting .ready .updV []).cfg.sinkSoc = true) ∧
    ((withSinks true false true (waiting .ready .updV [])).outstanding = some reqRdVcell ∧
      (withSinks true false true (waiting .ready .updV [])).cfg.sinkSoc = false ∧
      (withSinks true false true (waiting .ready .updV [])).cfg.sinkPs = true ∧
      (withSinks true false false (waiting .ready .updV [])).cfg.sinkPs = false) ∧
    ((waiting .ready .updSoc []).outstanding = some reqRdSoc ∧ (waiting .ready .updSoc []).seq = .updSoc ∧
      { waiting .ready .updSoc [] with stKind := .warning, stMsg := .vcell }.stKind = .warning) := by
  decide

theorem witness_PowerSource : ¬ (bench .ready .updPs []).resetAsserted ∧
    (bench .ready .updPs []).rsp = none ∧ (bench .ready .updPs []).tReq = none ∧
    (bench .ready .updPs []).seq = .updPs :=
  ⟨not_resetAsserted (by decide), rfl, rfl, rfl⟩

theorem witness_SleepAnswers : (waiting .ready .slpWr []).outstanding = some reqSleep ∧
    (waiting .ready .slpWr []).seq = .slpWr := ⟨rfl, rfl⟩

/-- AnswersLeaveTheRestAlone: an answer in SETUP, one outside it, and one that changes `ASLEEP`. -/
theorem witness_AnswersLeave :
    (∃ t, exec (.tErr 0#16) (waiting .validating .setupSel []) = .next t ∧
      ((waiting .validating .setupSel []).seq.inSetup) = true) ∧
    (∃ t, exec (.tOk 0#16) (waiting .ready .slpWr []) = .next t ∧
      (waiting .ready .slpWr []).seq.inSetup = false ∧ t.asleep ≠ (waiting .ready .slpWr []).asleep) :=
  ⟨⟨_, rfl, rfl⟩, ⟨_, rfl, rfl, by decide⟩⟩

/-- AnswersAndTheBuffer: an answer that ends the command, and answers that do not. -/
theorem witness_Buffer :
    (∃ t, exec (.tErr 0#16) (waiting .ready .slpWr []) = .next t ∧ t.seq = .idle) ∧
    (∃ t, exec (.tOk 0x0D00#16) (waiting .ready .updV []) = .next t ∧ t.seq ≠ .idle ∧
      (waiting .ready .updV []).outstanding ≠ none) ∧
    (∃ t, exec (.tOk 0x0000#16) (waiting .validating .setupSel []) = .next t ∧ t.seq ≠ .idle) :=
  ⟨⟨_, rfl, rfl⟩, ⟨_, rfl, by decide, by decide⟩, ⟨_, rfl, by decide⟩⟩

/-- CsrStatusLayout: a state with each of the seven pairs, the last of them with the value the spec gives it. -/
theorem witness_CsrStatus :
    (∀ row ∈ [(StKind.ok, StMsg.none), (.warning, .none), (.warning, .vcell), (.warning, .soc),
      (.warning, .sleepWrite), (.error, .unrecognised), (.error, .sleepResetFailed)],
      ∃ s : State, s.stKind = row.1 ∧ s.stMsg = row.2) ∧
    csrStatusWord { bench .failed .idle [] with stMsg := .sleepResetFailed } = 0x000A#16 :=
  ⟨fun row _ => ⟨{ bench .ready .idle [] with stKind := row.1, stMsg := row.2 }, rfl, rfl⟩, by decide⟩

/-- CsrSinksLayout: both values of the level's valid bit. -/
theorem witness_CsrSinks : (bench .ready .idle []).psrcOut.valid = false ∧
    { bench .ready .idle [] with psrcOut := ⟨true, true⟩ }.psrcOut.valid = true := by decide

theorem witness_CsrDevaddr : ∃ u, step (bench .ready .idle []) = .next u ∧ u.lc = .ready :=
  ⟨_, rfl, rfl⟩

theorem witness_VoltageIsLinear : (0x0D00#16).extractLsb' 4 12 = (0x0D0F#16).extractLsb' 4 12 ∧
    ((0x0D10#16).extractLsb' 4 12).toNat = ((0x0D0F#16).extractLsb' 4 12).toNat + 1 := by decide

/-- RoundingIsNearestTiesToEven: the greatest value of a reading, and a tie. -/
theorem witness_Rounding :
    (0 < (socdec 0xFFFF#16).den ∧ (socdec 0xFFFF#16).num < 256 * (socdec 0xFFFF#16).den) ∧
    (16777217 < 256 * 131072 ∧ rne32 ⟨16777217, 131072⟩ = 0x43000000#32) ∧
    f32Finite 0x437FFEFC#32 := by
  refine ⟨by decide, by decide, ?_⟩
  unfold f32Finite; decide

theorem witness_PublishedWords : voltWord 0x0010#16 ≠ 0#32 ∧ socWord 0x0001#16 ≠ 0#32 := by decide

/-- The whole-machine rules: a step from a state with the invariant, one for each kind of change. -/
theorem witness_LifecycleTransitions :
    (Inv (bench .uninit .idle [.cmd 1#2]) ∧ nextIs (step (bench .uninit .idle [.cmd 1#2]))
      (fun t => t.lc == .validating) = true) ∧
    (Inv (waiting .validating .setupRd [.answer 0x00000#17]) ∧
      nextIs (step (waiting .validating .setupRd [.answer 0x00000#17])) (fun t => t.lc == .failed) = true) ∧
    (Inv (bench .failed .idle [.rst]) ∧ nextIs (step (bench .failed .idle [.rst]))
      (fun t => t.lc == .uninit) = true) :=
  ⟨⟨inv_bench_idle _ _ (by decide), by decide⟩, ⟨inv_waiting_setup _ _ rfl, by decide⟩,
    ⟨inv_bench_idle _ _ (by decide), by decide⟩⟩

theorem witness_FailedBlock : Inv (bench .failed .idle [.cmd 2#2]) ∧
    (bench .failed .idle [.cmd 2#2]).lc = .failed ∧ ¬ (bench .failed .idle [.cmd 2#2]).resetAsserted ∧
    ∃ t, step (bench .failed .idle [.cmd 2#2]) = .next t ∧ t.rsp = some 0#2 :=
  ⟨inv_bench_idle _ _ (by decide), rfl, not_resetAsserted (by decide), _, rfl, rfl⟩

/-- FlagsChangeOnlyAsListed: each flag changes in some step. -/
theorem witness_FlagsChange :
    (Inv (waiting .ready .slpWr [.answer 0x10000#17]) ∧
      nextIs (step (waiting .ready .slpWr [.answer 0x10000#17])) (fun t => t.asleep) = true) ∧
    (Inv (waiting .validating .setupWb [.answer 0x10000#17]) ∧
      nextIs (step (waiting .validating .setupWb [.answer 0x10000#17])) (fun t => t.pinCfg) = true) ∧
    (Inv (waiting .ready .updV [.answer 0x10D00#17]) ∧
      nextIs (step (waiting .ready .updV [.answer 0x10D00#17]))
        (fun t => t.voltOut == ⟨true, 0x3E851EB8#32⟩) = true) ∧
    (Inv (waiting .ready .updSoc [.answer 0x16400#17]) ∧
      nextIs (step (waiting .ready .updSoc [.answer 0x16400#17]))
        (fun t => t.socOut == ⟨true, 0x42C80000#32⟩) = true) ∧
    (Inv (bench .ready .updPs []) ∧
      nextIs (step (bench .ready .updPs [])) (fun t => t.psrcOut == ⟨true, true⟩) = true) ∧
    (Inv (waiting .ready .updV [.answer 0x00000#17]) ∧
      nextIs (step (waiting .ready .updV [.answer 0x00000#17])) (fun t => t.stKind == .warning) = true) :=
  ⟨⟨inv_waiting_ready _ _ rfl, by decide⟩, ⟨inv_waiting_setup _ _ rfl, by decide⟩,
    ⟨inv_waiting_ready _ _ rfl, by decide⟩, ⟨inv_waiting_ready _ _ rfl, by decide⟩,
    ⟨inv_bench_sample _, by decide⟩, ⟨inv_waiting_ready _ _ rfl, by decide⟩⟩

/-- AbsentSinkIsNeverServed, ParametersNeverChange: a step of a block with no sink. -/
theorem witness_AbsentSink : Inv (withSinks false false false (bench .ready .idle [.cmd 2#2])) ∧
    ¬ (withSinks false false false (bench .ready .idle [.cmd 2#2])).resetAsserted ∧
    ∃ t, step (withSinks false false false (bench .ready .idle [.cmd 2#2])) = .next t ∧
      t.rsp = some 0#2 := by
  refine ⟨?_, not_resetAsserted (by decide), _, rfl, rfl⟩
  constructor <;> constructor <;>
    simp [withSinks, bench, State.reset, SeqPos.inSetup, SeqPos.request]

theorem witness_Strobes : nextIs (step (waiting .ready .updV [.answer 0x10D00#17]))
    (fun t => t.vStrobe && decide (Event.pub (.v 0x3E851EB8#32) ∈ t.trace)) = true := by decide

theorem waiting_bench (lc : Lifecycle) (l : List PortInput) : (bench lc .idle l).Waiting :=
  ⟨rfl, rfl, rfl, rfl, rfl, rfl⟩

/-- SetupCommand: each of its five cases. -/
theorem witness_SetupCommand :
    ((bench .uninit .idle [.cmd 1#2, .answer 0x10000#17, .answer 0x197FC#17, .answer 0x10000#17]).Waiting ∧
      (bench .uninit .idle [.cmd 1#2]).lc = .uninit) ∧
    trspOk 0x00000#17 = false ∧ trspOk 0x10000#17 = true ∧
    idMatch (trspData 0x197FC#17) = true ∧ idMatch (trspData 0x1971D#17) = false :=
  ⟨⟨waiting_bench _ _, rfl⟩, by decide⟩

/-- StatusAfterUpdate: with both numeric sinks, and with none. -/
theorem witness_StatusAfterUpdate :
    (Inv (bench .ready .idle [.cmd 2#2, .answer 0x10D00#17, .answer 0x0FFFF#17]) ∧
      (bench .ready .idle [.cmd 2#2, .answer 0x10D00#17, .answer 0x0FFFF#17]).Waiting ∧
      (bench .ready .idle []).cfg.sinkV = true ∧ (bench .ready .idle []).cfg.sinkSoc = true) ∧
    (withSinks false false false (bench .ready .idle [.cmd 2#2])).Waiting :=
  ⟨⟨inv_bench_idle _ _ (by decide), waiting_bench _ _, rfl, rfl⟩, ⟨rfl, rfl, rfl, rfl, rfl, rfl⟩⟩

theorem witness_CommandEnds :
    Inv (offering .ready .updV [.answer 0#17, .answer 0#17, .answer 0#17]) ∧
    (offering .ready .updV [.answer 0#17, .answer 0#17, .answer 0#17]).seq ≠ .idle ∧
    (offering .ready .updV [.answer 0#17, .answer 0#17, .answer 0#17]).tReady = true :=
  ⟨inv_offering_ready _ _ rfl, by decide, rfl⟩

end Sys2Proof.Tests
end

/-! PROOFS. The invariant along a run (10_state.md R46): every transfer keeps it, so every reachable state
has it. -/

namespace Sys2Proof.Machine

variable {s t : State}

/-! ## Changes the invariant does not see -/

theorem inv_record (h : Inv s) (e : Event) : Inv (record e s) := ⟨{ h.mode with }, { h.port with }⟩

theorem inv_clearStrobes (h : Inv s) : Inv (clearStrobes s) := ⟨{ h.mode with }, { h.port with }⟩

theorem inv_setInputs (h : Inv s) (l : List PortInput) : Inv (setInputs l s) :=
  ⟨{ h.mode with }, { h.port with }⟩

theorem inv_setHostCmds (h : Inv s) (l : List (BitVec 2)) : Inv (setHostCmds l s) :=
  ⟨{ h.mode with }, { h.port with }⟩

theorem inv_setReady (h : Inv s) (b : Bool) : Inv (setReady b s) := ⟨{ h.mode with }, { h.port with }⟩

theorem inv_setDin (h : Inv s) (b : Bool) : Inv (setDin b s) := ⟨{ h.mode with }, { h.port with }⟩

theorem inv_selectCsr (h : Inv s) (w : BitVec 2) : Inv (selectCsr w s) :=
  ⟨{ h.mode with }, { h.port with }⟩

/-- The completion pulse ends: one obligation of the port fewer. -/
theorem inv_complete (h : Inv s) (c : Completion) : Inv (complete c s) :=
  ⟨{ h.mode with }, { h.port with completing := by simp }⟩

/-- An idle block may signal a completion, with a code that exists (R170). -/
theorem inv_respond (h : Inv s) (hi : s.seq = .idle) (c : Completion) : Inv (respond c s) :=
  ⟨{ h.mode with },
   { h.port with
     completing := fun w hw => by
       obtain rfl : c.code = w := by simpa using hw
       exact ⟨hi, c.code_ne_three⟩ }⟩

/-! ## What the invariant says of the ports -/

/-- Where the position waits on no request, none is offered and none is outstanding. -/
theorem inv_no_request (h : Inv s) (hq : s.seq.request = none) : s.tReq = none ∧ s.outstanding = none := by
  constructor
  · cases hw : s.tReq with
    | none => rfl
    | some w =>
      obtain ⟨-, r, hr, -⟩ := h.port.offered w hw
      simp [hq] at hr
  · cases hr : s.outstanding with
    | none => rfl
    | some r => have := h.port.issued r hr; simp [hq] at this

/-- An offered word is that of one request only: the one its position waits on. -/
theorem inv_offered_request (h : Inv s) {r : Request} (hr : s.tReq = some r.word) :
    s.outstanding = none ∧ s.seq.request = some r := by
  obtain ⟨ho, r', hq, hw⟩ := h.port.offered _ hr
  exact ⟨ho, hq.trans (congrArg some (Request.word_injective hw))⟩

/-- While a request is outstanding, nothing is offered and no completion is signalled. -/
theorem inv_outstanding (h : Inv s) {r : Request} (hr : s.outstanding = some r) :
    s.seq.request = some r ∧ s.tReq = none ∧ s.rsp = none := by
  have hq := h.port.issued r hr
  refine ⟨hq, ?_, ?_⟩
  · cases hw : s.tReq with
    | none => rfl
    | some w => have := h.port.offered w hw; simp [hr] at this
  · cases hw : s.rsp with
    | none => rfl
    | some w =>
      obtain ⟨hi, -⟩ := h.port.completing w hw
      simp [hi, SeqPos.request] at hq

/-- The transport takes the offered request (R83). -/
theorem inv_issue (h : Inv s) {r : Request} (hr : s.tReq = some r.word) : Inv (issue r s) := by
  obtain ⟨-, hq⟩ := inv_offered_request h hr
  exact ⟨{ h.mode with },
    { h.port with
      offered := by simp
      issued := fun r' hr' => by
        obtain rfl : r = r' := by simpa using hr'
        exact hq
      waiting := by simp }⟩

/-! ## Reset (R47, R185) -/

theorem registersReset_applyReset (s : State) : RegistersReset (applyReset s) := by
  simp [RegistersReset]

theorem inv_applyReset (s : State) : Inv (applyReset s) := by
  constructor <;> constructor <;> simp [SeqPos.inSetup, SeqPos.request, registersReset_applyReset]

/-! ## The two phases of a command

A command's sequence passes through states in which its position is not yet that of its next request;
what stays true of them is said by `Serving` (UPDATE and SLEEP) and `Checking` (SETUP). -/

/-- The pairs a `READY` block may show (R46 e). -/
def ReadyStatus (k : StKind) (m : StMsg) : Prop :=
  (k = .ok ∧ m = .none) ∨ (k = .warning ∧ m = .vcell) ∨ (k = .warning ∧ m = .soc) ∨
    (k = .warning ∧ m = .sleepWrite)

/-- A recoverable cause records a pair of a `READY` block (R161). -/
theorem WarnCause.readyStatus (c : WarnCause) : ReadyStatus .warning c.msg := by
  cases c <;> simp [ReadyStatus, WarnCause.msg]

/-- No transfer with the transport or to the host is pending. -/
structure PortsClear (s : State) : Prop where
  tReq : s.tReq = none
  outstanding : s.outstanding = none
  rsp : s.rsp = none

/-- A `READY` block between two requests, at any position. -/
structure Serving (s : State) : Prop where
  lc : s.lc = .ready
  pinCfg : s.pinCfg = true
  status : ReadyStatus s.stKind s.stMsg
  clear : PortsClear s

/-- A `VALIDATING` block between two requests, at any position (R106: no flag is set yet). -/
structure Checking (s : State) : Prop where
  lc : s.lc = .validating
  asleep : s.asleep = false
  pinCfg : s.pinCfg = false
  stKind : s.stKind = .ok
  stMsg : s.stMsg = .none
  volt : s.voltOut.valid = false
  soc : s.socOut.valid = false
  psrc : s.psrcOut.valid = false
  clear : PortsClear s

/-! ### READY -/

theorem modeInv_of_ready (hlc : s.lc = .ready) (hpin : s.pinCfg = true)
    (hst : ReadyStatus s.stKind s.stMsg) (hq : s.seq.inSetup = false) : ModeInv s := by
  have hk : s.stKind ≠ .error := by
    rcases hst with ⟨hk, -⟩ | ⟨hk, -⟩ | ⟨hk, -⟩ | ⟨hk, -⟩ <;> simp [hk]
  constructor <;> simp [hlc, hpin, hq, hk]
  case ready_status => exact hst

/-- An idle block with nothing on its transport port. -/
theorem portInv_of_idle (hq : s.seq = .idle) (hlc : s.lc ≠ .validating) (ht : s.tReq = none)
    (ho : s.outstanding = none) (hr : ∀ w, s.rsp = some w → w ≠ 3#2) : PortInv s := by
  constructor <;> simp [hq, hlc, ht, ho, SeqPos.request]
  case completing => exact hr

/-- A block that offers the request its position waits on. -/
theorem portInv_of_offered {r : Request} (hq : s.seq.request = some r) (ht : s.tReq = some r.word)
    (ho : s.outstanding = none) (hr : s.rsp = none)
    (hlc : s.seq.inSetup = false → s.lc = .ready)
    (hst : s.lc = .validating → s.stKind = .ok ∧ s.stMsg = .none)
    (hv : s.seq = .updV → s.cfg.sinkV = true) (hs : s.seq = .updSoc → s.cfg.sinkSoc = true) :
    PortInv s where
  busy_ready _ := hlc
  validating_status := hst
  offered w hw := ⟨ho, r, hq, by simpa [ht] using hw⟩
  issued := by simp [ho]
  waiting := by simp [ht]
  completing := by simp [hr]
  voltSink := hv
  socSink := hs
  psSink hp := by simp [hp, SeqPos.request] at hq

/-- A request offered at a position of UPDATE or SLEEP, if its sink is present. -/
theorem Serving.inv_offer (h : Serving s) (q : SeqPos) {r : Request} (hq : q.inSetup = false)
    (hr : q.request = some r) (hv : q = .updV → s.cfg.sinkV = true)
    (hs : q = .updSoc → s.cfg.sinkSoc = true) : Inv (offer r.word { s with seq := q }) := by
  obtain ⟨hlc, hpin, hst, -, hout, hrsp⟩ := h
  exact ⟨modeInv_of_ready hlc hpin hst hq,
    portInv_of_offered hr rfl hout hrsp (fun _ => hlc) (by simp [hlc]) hv hs⟩

/-- The end of a command of a `READY` block. -/
theorem Serving.inv_endCommand (h : Serving s) (c : Completion) : Inv (endCommand c s) := by
  obtain ⟨hlc, hpin, hst, htr, hout, -⟩ := h
  constructor
  · apply modeInv_of_ready <;> simp_all [SeqPos.inSetup]
  · apply portInv_of_idle <;> simp [hlc, htr, hout, c.code_ne_three]

/-- The power-source reading, if its sink is present. -/
theorem Serving.inv_updPs (h : Serving s) (hp : s.cfg.sinkPs = true) : Inv { s with seq := .updPs } := by
  obtain ⟨hlc, hpin, hst, htr, hout, hrsp⟩ := h
  exact ⟨modeInv_of_ready hlc hpin hst rfl,
    by constructor <;> simp [hlc, htr, hout, hrsp, hp, SeqPos.request]⟩

theorem Serving.inv_updatePower (h : Serving s) : Inv (updatePower s) := by
  cases hp : s.cfg.sinkPs with
  | true => simpa [updatePower_of_present, hp] using h.inv_updPs hp
  | false => simpa [updatePower_of_absent, hp] using h.inv_endCommand .done

theorem Serving.inv_updateSoc (h : Serving s) : Inv (updateSoc s) := by
  cases hs : s.cfg.sinkSoc with
  | true => rw [updateSoc_of_present s hs]; exact h.inv_offer .updSoc rfl rfl nofun fun _ => hs
  | false => rw [updateSoc_of_absent s hs]; exact h.inv_updatePower

theorem Serving.inv_updateVolt (h : Serving s) : Inv (updateVolt s) := by
  cases hv : s.cfg.sinkV with
  | true => rw [updateVolt_of_present s hv]; exact h.inv_offer .updV rfl rfl (fun _ => hv) nofun
  | false => rw [updateVolt_of_absent s hv]; exact h.inv_updateSoc

theorem Serving.inv_sleepStart (h : Serving s) : Inv (sleepStart s) :=
  h.inv_offer .slpWr rfl rfl nofun nofun

theorem PortsClear.of_eq (h : PortsClear s) (h1 : t.tReq = s.tReq) (h2 : t.outstanding = s.outstanding)
    (h3 : t.rsp = s.rsp) : PortsClear t := ⟨h1.trans h.tReq, h2.trans h.outstanding, h3.trans h.rsp⟩

/-- `Serving` reads the lifecycle, the pin, the status and the three ports. -/
theorem Serving.of_eq (h : Serving s) (hlc : t.lc = s.lc) (hpin : t.pinCfg = s.pinCfg)
    (hst : ReadyStatus t.stKind t.stMsg) (h1 : t.tReq = s.tReq) (h2 : t.outstanding = s.outstanding)
    (h3 : t.rsp = s.rsp) : Serving t :=
  ⟨hlc.trans h.lc, hpin.trans h.pinCfg, hst, h.clear.of_eq h1 h2 h3⟩

theorem Serving.after_clearWarning (h : Serving s) : Serving (clearWarning s) := by
  by_cases hk : s.stKind = .warning
  · rw [clearWarning_of_warning s hk]
    exact h.of_eq rfl rfl (.inl ⟨rfl, rfl⟩) rfl rfl rfl
  · rwa [clearWarning_of_not_warning s hk]

theorem Serving.after_warn (h : Serving s) (c : WarnCause) : Serving (raise (.warn c) s) :=
  h.of_eq rfl rfl c.readyStatus rfl rfl rfl

theorem Serving.inv_powerSample (h : Serving s) : Inv (powerSample s) :=
  (h.of_eq (t := publishLevel s.dinLevel (record (.din s.dinLevel) s)) rfl rfl h.status rfl rfl
    rfl).inv_endCommand .done

/-- A good answer at a position of UPDATE or SLEEP (R124, R127, R147). -/
theorem Serving.inv_resumeOk (h : Serving s) (hq : s.seq.inSetup = false) (hr : s.seq.request ≠ none)
    (d : Word) : Inv (resumeOk d s) := by
  cases hs : s.seq with
  | idle | updPs => simp [hs, SeqPos.request] at hr
  | setupSel | setupRd | setupWb => simp [hs, SeqPos.inSetup] at hq
  | updV =>
    simp only [resumeOk, hs]
    exact (h.of_eq (t := publishVolt (voltWord d) { s with buf := d }) rfl rfl h.status rfl rfl
      rfl).after_clearWarning.inv_updateSoc
  | updSoc =>
    simp only [resumeOk, hs]
    exact (h.of_eq (t := publishSoc (socWord d) { s with buf := d }) rfl rfl h.status rfl rfl
      rfl).after_clearWarning.inv_updatePower
  | slpWr =>
    simp only [resumeOk, hs]
    exact (h.of_eq (t := { s with asleep := true }) rfl rfl h.status rfl rfl rfl).inv_endCommand .done

/-- A failed answer at a position of UPDATE or SLEEP: a warning, and the command goes on (R128, R148). -/
theorem Serving.inv_resumeErr (h : Serving s) (hq : s.seq.inSetup = false) (hr : s.seq.request ≠ none) :
    Inv (resumeErr s) := by
  cases hs : s.seq with
  | idle | updPs => simp [hs, SeqPos.request] at hr
  | setupSel | setupRd | setupWb => simp [hs, SeqPos.inSetup] at hq
  | updV =>
    simp only [resumeErr, hs]
    exact (h.after_warn .vcell).inv_updateSoc
  | updSoc =>
    simp only [resumeErr, hs]
    exact (h.after_warn .soc).inv_updatePower
  | slpWr =>
    simp only [resumeErr, hs]
    exact (h.after_warn .sleepWrite).inv_endCommand .done

/-! ### VALIDATING -/

/-- A request offered at a position of SETUP. -/
theorem Checking.inv_offer (h : Checking s) (q : SeqPos) {r : Request} (hq : q.inSetup = true)
    (hr : q.request = some r) : Inv (offer r.word { s with seq := q }) := by
  obtain ⟨hlc, hsl, hpin, hk, hm, hv, hs, hp, -, hout, hrsp⟩ := h
  constructor
  · constructor <;> simp [hlc, hsl, hpin, hk, hv, hs, hp, hq]
  · exact portInv_of_offered hr rfl hout hrsp (fun hf => by simp [hq] at hf) (fun _ => ⟨hk, hm⟩)
      (by rintro rfl; cases hq) (by rintro rfl; cases hq)

/-- A fatal cause ends SETUP in `FAILED` with one of its three pairs (R156, R160). -/
theorem Checking.inv_raise_fatal (h : Checking s) (c : FatalCause) : Inv (raise (.fatal c) s) := by
  obtain ⟨hlc, hsl, hpin, hk, hm, hv, hs, hp, htr, hout, hrsp⟩ := h
  rw [raise_fatal]
  constructor
  · constructor <;> simp [hsl, hpin, hv, hs, hp, SeqPos.inSetup]
    case failed_status => cases c <;> simp [FatalCause.kind, FatalCause.msg]
  · apply portInv_of_idle <;> simp [htr, hout, Completion.code]

/-- The last step of SETUP makes the block `READY` (R106). -/
theorem Checking.inv_setupFinish (h : Checking s) : Inv (setupFinish s) :=
  Serving.inv_endCommand (s := { configurePin s with asleep := false, lc := .ready })
    ⟨rfl, rfl, .inl ⟨h.stKind, h.stMsg⟩, h.clear.of_eq rfl rfl rfl⟩ .done

/-- A setting of `BUF` is not seen. -/
theorem Checking.set_buf (h : Checking s) (w : Word) : Checking { s with buf := w } :=
  { h with clear := { h.clear with } }

theorem Checking.inv_setupCheck (h : Checking s) (b0 b1 : Byte) : Inv (setupCheck b0 b1 s) := by
  cases hm : idMatch (beWord b0 b1) with
  | true =>
    rw [setupCheck_of_match s hm]
    exact (h.set_buf (beWord b0 b1)).inv_offer .setupWb rfl rfl
  | false =>
    rw [setupCheck_of_mismatch s hm]
    exact (h.set_buf _).inv_raise_fatal .unrecognised

theorem Checking.inv_resumeOk (h : Checking s) (hq : s.seq.inSetup = true) (d : Word) :
    Inv (resumeOk d s) := by
  cases hs : s.seq with
  | setupSel =>
    simp only [resumeOk, hs]
    exact h.inv_offer .setupRd rfl rfl
  | setupRd =>
    simp only [resumeOk, hs]
    exact h.inv_setupCheck _ _
  | setupWb =>
    simp only [resumeOk, hs]
    exact h.inv_setupFinish
  | idle | updV | updSoc | updPs | slpWr => simp [hs, SeqPos.inSetup] at hq

theorem Checking.inv_resumeErr (h : Checking s) (hq : s.seq.inSetup = true) : Inv (resumeErr s) := by
  cases hs : s.seq with
  | setupSel => simpa [resumeErr, hs] using h.inv_raise_fatal .xportSelect
  | setupRd => simpa [resumeErr, hs] using h.inv_raise_fatal .xportRead
  | setupWb => simpa [resumeErr, hs] using h.inv_raise_fatal .sleepResetFailed
  | idle | updV | updSoc | updPs | slpWr => simp [hs, SeqPos.inSetup] at hq

/-! ## From the invariant into a phase -/

theorem portsClear_of_idle (h : Inv s) (hi : s.seq = .idle) (hr : s.rsp = none) : PortsClear s :=
  have hp := inv_no_request h (by simp [hi, SeqPos.request])
  ⟨hp.1, hp.2, hr⟩

/-- An outstanding request that is answered leaves the ports clear. -/
theorem portsClear_of_answered (h : Inv s) {r : Request} (hr : s.outstanding = some r) (e : Event) :
    PortsClear (record e { s with outstanding := none }) := by
  obtain ⟨-, ht, hrsp⟩ := inv_outstanding h hr
  exact ⟨ht, rfl, hrsp⟩

theorem serving_of_ready (h : ModeInv s) (hlc : s.lc = .ready) (hc : PortsClear s) : Serving s :=
  ⟨hlc, h.pin_iff_ready.2 hlc, h.ready_status hlc, hc⟩

theorem no_valid_of_not_ready (h : ModeInv s) (hlc : s.lc ≠ .ready) :
    s.voltOut.valid = false ∧ s.socOut.valid = false ∧ s.psrcOut.valid = false := by
  simpa [not_or] using mt h.valid_ready hlc

theorem checking_of_validating (h : ModeInv s) (hlc : s.lc = .validating)
    (hst : s.stKind = .ok ∧ s.stMsg = .none) (hc : PortsClear s) : Checking s := by
  have hnr : s.lc ≠ .ready := by simp [hlc]
  obtain ⟨hk, hm⟩ := hst
  obtain ⟨hv, hs, hp⟩ := no_valid_of_not_ready h hnr
  exact ⟨hlc, by simpa using mt h.asleep_ready hnr, by simpa using mt h.pin_iff_ready.1 hnr,
    hk, hm, hv, hs, hp, hc⟩

/-! ## Commands (R100, R120, R145, R158) -/

theorem inv_acceptSetup (h : Inv s) (hi : s.seq = .idle) (hr : s.rsp = none) : Inv (acceptSetup s) := by
  by_cases hlc : s.lc = .uninit
  · rw [acceptSetup_of_uninit s hlc]
    obtain ⟨-, hsl, hpin, hk, hm, hv, hs, hp, -⟩ := h.mode.uninit_reset hlc
    exact Checking.inv_offer (s := { s with lc := .validating })
      ⟨rfl, hsl, hpin, hk, hm, hv, hs, hp, (portsClear_of_idle h hi hr).of_eq rfl rfl rfl⟩
      .setupSel rfl rfl
  · rw [acceptSetup_of_not_uninit s hlc]
    exact inv_respond h hi .illegalState

theorem inv_acceptUpdate (h : Inv s) (hi : s.seq = .idle) (hr : s.rsp = none) : Inv (acceptUpdate s) := by
  unfold acceptUpdate
  split
  next => exact inv_respond h hi .illegalState
  next => exact inv_respond h hi .illegalState
  next hlc => exact (serving_of_ready h.mode hlc (portsClear_of_idle h hi hr)).inv_updateVolt
  next => exact inv_respond h hi .done

theorem inv_acceptSleep (h : Inv s) (hi : s.seq = .idle) (hr : s.rsp = none) : Inv (acceptSleep s) := by
  unfold acceptSleep
  split
  next => exact inv_respond h hi .illegalState
  next => exact inv_respond h hi .illegalState
  next hlc => exact (serving_of_ready h.mode hlc (portsClear_of_idle h hi hr)).inv_sleepStart
  next => exact inv_respond h hi .done

theorem inv_accepts (h : Inv s) (hi : s.seq = .idle) (hr : s.rsp = none) (ha : Accepts s t) : Inv t := by
  cases ha with
  | reserved => exact inv_respond h hi .illegalOp
  | setup => exact inv_acceptSetup (inv_record h _) hi hr
  | update => exact inv_acceptUpdate (inv_record h _) hi hr
  | sleep => exact inv_acceptSleep (inv_record h _) hi hr

/-! ## Answers (R80, R83) -/

/-- Taking an answer keeps the invariant, if what the sequencer then does keeps it in SETUP and in a
`READY` block. -/
theorem inv_takeAnswer (h : Inv s) (carried : Request → Answer) (resume : State → State)
    (hc : ∀ u, Checking u → u.seq.inSetup = true → Inv (resume u))
    (hs : ∀ u, Serving u → u.seq.inSetup = false → u.seq.request ≠ none → Inv (resume u)) :
    Inv (takeAnswer carried resume s) := by
  cases hr : s.outstanding with
  | none => rwa [takeAnswer_of_none s _ _ hr]
  | some r =>
    rw [takeAnswer_of_some s _ _ hr]
    have hq : s.seq.request = some r := h.port.issued r hr
    have hbusy : s.seq ≠ .idle := by intro hi; simp [hi, SeqPos.request] at hq
    have mode : ModeInv (record (.tRsp (carried r)) { s with outstanding := none }) := { h.mode with }
    have clear := portsClear_of_answered h hr (.tRsp (carried r))
    cases hset : s.seq.inSetup with
    | true =>
      have hlc := h.mode.validating_iff.2 hset
      exact hc _ (checking_of_validating mode hlc (h.port.validating_status hlc) clear) hset
    | false =>
      exact hs _ (serving_of_ready mode (h.port.busy_ready hbusy hset) clear) hset (by simp [hq])

theorem inv_execTOk (h : Inv s) (d : Word) :
    Inv (takeAnswer (fun r => r.okAnswer d) (resumeOk d) s) :=
  inv_takeAnswer h _ _ (fun _ hc hq => hc.inv_resumeOk hq d) fun _ hs hq hr => hs.inv_resumeOk hq hr d

theorem inv_execTErr (h : Inv s) : Inv (takeAnswer (fun _ => .err) resumeErr s) :=
  inv_takeAnswer h _ _ (fun _ hc hq => hc.inv_resumeErr hq) fun _ hs hq hr => hs.inv_resumeErr hq hr

/-! ## Steps and runs -/

/-- Every step keeps the invariant. -/
theorem inv_step (h : Inv s) (hst : step s = .next t) : Inv t := by
  have hcl : Inv (clearStrobes s) := inv_clearStrobes h
  cases step_cases hst with
  | reset rest hi => exact inv_applyReset _
  | complete c hr => exact inv_complete hcl c
  | issue r hr ht hrd => exact inv_issue hcl ht
  | sample hr hq =>
    have hp := inv_no_request hcl (by simp [hq, SeqPos.request])
    have hlc : s.lc = .ready := h.port.busy_ready (by simp [hq]) (by simp [hq, SeqPos.inSetup])
    exact (serving_of_ready hcl.mode hlc ⟨hp.1, hp.2, hr⟩).inv_powerSample
  | held w rest _ hr hi hw ha => exact inv_accepts (inv_setHostCmds hcl rest) hi hr ha
  | command w rest _ hr hi hw ha => exact inv_accepts (inv_setInputs hcl rest) hi hr ha
  | wait w rest hr hi hp hw => exact inv_setHostCmds (inv_setInputs hcl rest) _
  | ok d w rest hr hp hw => exact inv_execTOk (inv_setInputs hcl rest) d
  | err w rest hr hp hw => exact inv_execTErr (inv_setInputs hcl rest)
  | csr w rest hr hw => exact inv_selectCsr (inv_setInputs hcl rest) w
  | ready b rest hr hw => exact inv_setReady (inv_setInputs hcl rest) b
  | din b rest hr hw => exact inv_setDin (inv_setInputs hcl rest) b
  | idle hr hw ht ho => exact hcl

/-- Every reachable state has the invariant. -/
theorem Reachable.inv (h : Reachable s) : Inv s := by
  induction h with
  | start e => exact inv_applyReset e
  | next s t _ hst ih => exact inv_step ih hst

end Sys2Proof.Machine

/-! PROOFS. The mode rules (10_state.md R46) and the status pairs (R27), from the invariant. -/

namespace Sys2Proof.Machine

variable {s t : State}

/-- Settles O14: the rules are those of `ModeInv`, and every reachable state has the invariant. -/
theorem reachableStatesKeepModeRules : Obligations.ReachableStatesKeepModeRules := by
  intro s hs
  obtain ⟨hpin, hsl, herr, hfail, hready, hun, hval, hvalid⟩ := hs.inv.mode
  refine ⟨hpin, hsl, herr, ?_, ?_, hun, ?_, hvalid⟩
  · simpa using hfail
  · simpa using hready
  · rw [hval]
    cases s.seq <;> simp [SeqPos.inSetup]

/-! ## The status pairs (R27) -/

/-- The seven pairs (R27). -/
def statusPairs : List (StKind × StMsg) :=
  [(.ok, .none), (.warning, .none), (.warning, .vcell), (.warning, .soc), (.warning, .sleepWrite),
    (.error, .unrecognised), (.error, .sleepResetFailed)]

/-- The invariant leaves no other pair, whatever the lifecycle. -/
theorem inv_status_mem (h : Inv s) : (s.stKind, s.stMsg) ∈ statusPairs := by
  cases hlc : s.lc with
  | uninit =>
    obtain ⟨-, -, -, hk, hm, -⟩ := h.mode.uninit_reset hlc
    simp [hk, hm, statusPairs]
  | validating =>
    obtain ⟨hk, hm⟩ := h.port.validating_status hlc
    simp [hk, hm, statusPairs]
  | ready =>
    rcases h.mode.ready_status hlc with ⟨hk, hm⟩ | ⟨hk, hm⟩ | ⟨hk, hm⟩ | ⟨hk, hm⟩ <;>
      simp [hk, hm, statusPairs]
  | failed =>
    rcases h.mode.failed_status hlc with ⟨hk, hm⟩ | ⟨hk, hm⟩ | ⟨hk, hm⟩ <;>
      simp [hk, hm, statusPairs]

/-- A run from a reachable state ends in a reachable one. -/
theorem Reachable.run (n : Nat) (hs : Reachable s) (h : Sys2Proof.core.run n s = .next t) :
    Reachable t := by
  induction n generalizing s with
  | zero =>
    obtain rfl : s = t := Host.Outcome.next.inj h
    exact hs
  | succ n ih =>
    cases hst : step s with
    | next u => exact ih (.next s u hs hst) (by rwa [run_succ n hst] at h)
    | fault r => simp [Host.Core.run, show Sys2Proof.core.step s = .fault r from hst] at h
    | refused r => simp [Host.Core.run, show Sys2Proof.core.step s = .refused r from hst] at h

/-- A block after reset, with all three sinks and a ready transport, and with these inputs to come. -/
def freshBlock (inputs : List PortInput) : State :=
  applyReset { State.reset with cfg := ⟨0#7, 0, true, true, true, true⟩, inputs := inputs }

/-- The status pair after `n` steps of that block. -/
def statusAfter (n : Nat) (inputs : List PortInput) : Option (StKind × StMsg) :=
  match Sys2Proof.core.run n (freshBlock inputs) with
  | .next t => some (t.stKind, t.stMsg)
  | .fault _ => none
  | .refused _ => none

theorem reachable_of_statusAfter {n : Nat} {inputs : List PortInput} {k : StKind} {m : StMsg}
    (h : statusAfter n inputs = some (k, m)) : ∃ s, Reachable s ∧ s.stKind = k ∧ s.stMsg = m := by
  unfold statusAfter at h
  split at h
  next t ht =>
    obtain ⟨rfl, rfl⟩ : t.stKind = k ∧ t.stMsg = m := by simpa using h
    exact ⟨t, (Reachable.start _).run n ht, rfl, rfl⟩
  next => cases h
  next => cases h

/-- SETUP, answered with success and the identity `0x971C`: seven transfers and the completion pulse. -/
def goodSetup : List PortInput := [.cmd 1#2, .answer 0x10000#17, .answer 0x1971C#17, .answer 0x10000#17]

/-- Each of the seven pairs is that of a run: a block after reset, and the six failures of R159 by the
answers that cause them. -/
theorem reachable_of_status_mem {k : StKind} {m : StMsg} (h : (k, m) ∈ statusPairs) :
    ∃ s, Reachable s ∧ s.stKind = k ∧ s.stMsg = m := by
  simp only [statusPairs, List.mem_cons, List.not_mem_nil, or_false, Prod.mk.injEq] at h
  rcases h with ⟨rfl, rfl⟩ | ⟨rfl, rfl⟩ | ⟨rfl, rfl⟩ | ⟨rfl, rfl⟩ | ⟨rfl, rfl⟩ | ⟨rfl, rfl⟩ | ⟨rfl, rfl⟩
  · exact reachable_of_statusAfter (n := 0) (inputs := []) rfl
  · exact reachable_of_statusAfter (n := 3) (inputs := [.cmd 1#2, .answer 0#17]) rfl
  · exact reachable_of_statusAfter (n := 11) (inputs := goodSetup ++ [.cmd 2#2, .answer 0#17]) rfl
  · exact reachable_of_statusAfter (n := 13)
      (inputs := goodSetup ++ [.cmd 2#2, .answer 0#17, .answer 0#17]) rfl
  · exact reachable_of_statusAfter (n := 11) (inputs := goodSetup ++ [.cmd 3#2, .answer 0#17]) rfl
  · exact reachable_of_statusAfter (n := 5)
      (inputs := [.cmd 1#2, .answer 0x10000#17, .answer 0x10000#17]) rfl
  · exact reachable_of_statusAfter (n := 7)
      (inputs := [.cmd 1#2, .answer 0x10000#17, .answer 0x1971C#17, .answer 0#17]) rfl

theorem reachable_status_iff (k : StKind) (m : StMsg) :
    (∃ s, Reachable s ∧ s.stKind = k ∧ s.stMsg = m) ↔ (k, m) ∈ statusPairs := by
  refine ⟨?_, reachable_of_status_mem⟩
  rintro ⟨s, hs, rfl, rfl⟩
  exact inv_status_mem hs.inv

/-- Settles O15: the invariant leaves seven pairs, and a run shows each. -/
theorem statusPairsAreExactlySeven : Obligations.StatusPairsAreExactlySeven :=
  ⟨reachable_status_iff, fun _ _ _ => rfl⟩

end Sys2Proof.Machine

/-! PROOFS. No step changes the parameters (00_scope.md R11; 10_state.md R36). -/

namespace Sys2Proof.Machine

variable {s t : State}

@[simp] theorem raise_cfg (c : Cause) (s : State) : (raise c s).cfg = s.cfg := by
  cases c with
  | fatal f => simp [raise_fatal]
  | warn w => rfl
  | protocol p => rfl

@[simp] theorem setupCheck_cfg (b0 b1 : Byte) (s : State) : (setupCheck b0 b1 s).cfg = s.cfg := by
  unfold setupCheck; split <;> simp

@[simp] theorem updatePower_cfg (s : State) : (updatePower s).cfg = s.cfg := by
  unfold updatePower; split <;> simp

@[simp] theorem updateSoc_cfg (s : State) : (updateSoc s).cfg = s.cfg := by
  unfold updateSoc; split <;> simp

@[simp] theorem updateVolt_cfg (s : State) : (updateVolt s).cfg = s.cfg := by
  unfold updateVolt; split <;> simp

@[simp] theorem powerSample_cfg (s : State) : (powerSample s).cfg = s.cfg := by simp [powerSample]

@[simp] theorem resumeOk_cfg (d : Word) (s : State) : (resumeOk d s).cfg = s.cfg := by
  unfold resumeOk
  split <;> simp [setupRead, setupFinish, voltSuccess, socSuccess, sleepSuccess]

@[simp] theorem resumeErr_cfg (s : State) : (resumeErr s).cfg = s.cfg := by
  unfold resumeErr
  split <;> simp [voltFailure, socFailure, sleepFailure]

theorem takeAnswer_cfg (carried : Request → Answer) {resume : State → State}
    (h : ∀ u, (resume u).cfg = u.cfg) (s : State) : (takeAnswer carried resume s).cfg = s.cfg := by
  cases ho : s.outstanding with
  | none => rw [takeAnswer_of_none s _ _ ho]
  | some r => rw [takeAnswer_of_some s _ _ ho, h, record_cfg]

theorem accepts_cfg (h : Accepts s t) : t.cfg = s.cfg := by
  cases h with
  | reserved => simp
  | setup => unfold acceptSetup; split <;> simp [setupStart]
  | update => unfold acceptUpdate; split <;> simp
  | sleep => unfold acceptSleep; split <;> simp [sleepStart]

theorem step_cfg (h : step s = .next t) : t.cfg = s.cfg := by
  cases step_cases h with
  | held w rest _ _ _ _ ha => simpa using accepts_cfg ha
  | command w rest _ _ _ _ ha => simpa using accepts_cfg ha
  | ok d w rest => simp [takeAnswer_cfg _ (resumeOk_cfg d)]
  | err w rest => simp [takeAnswer_cfg _ resumeErr_cfg]
  | reset | complete | issue | sample | wait | csr | ready | din | idle => simp

end Sys2Proof.Machine

/-! PROOFS. The introspection registers (10_state.md R40 to R44): the fields of their words. -/

namespace Sys2Proof.Machine

variable {s t : State}

/-! ## The register a selection shows (R40) -/

@[simp] theorem csrRdata_selectCsr_zero (s : State) : (selectCsr 0#2 s).csrRdata = csrDevaddrWord s := rfl
@[simp] theorem csrRdata_selectCsr_one (s : State) : (selectCsr 1#2 s).csrRdata = csrStateWord s := rfl
@[simp] theorem csrRdata_selectCsr_two (s : State) : (selectCsr 2#2 s).csrRdata = csrStatusWord s := rfl
@[simp] theorem csrRdata_selectCsr_three (s : State) : (selectCsr 3#2 s).csrRdata = csrSinksWord s := rfl

/-! ## CSR 0 (R41) -/

theorem csrDevaddrWord_fields (s : State) : (csrDevaddrWord s).extractLsb' 0 7 = s.cfg.devAddr ∧
    (csrDevaddrWord s).extractLsb' 7 9 = 0#9 := by
  simp (disch := decide) only [csrDevaddrWord, BitVec.extractLsb'_append_eq_of_le,
    BitVec.extractLsb'_append_eq_of_add_le]
  simp

/-- Settles O39: the fields of the word, and that no step changes the parameters it shows. -/
theorem csrDevaddrLayout : Obligations.CsrDevaddrLayout := by
  refine fun s => ⟨⟨_, rfl, rfl, csrDevaddrWord_fields s⟩, fun u hu => ?_⟩
  rw [csrDevaddrWord, step_cfg hu, csrDevaddrWord]

/-! ## CSR 1 (R42) -/

theorem csrStateWord_fields (s : State) :
    (csrStateWord s).extractLsb' 0 2 = s.lc.code ∧ (csrStateWord s).getLsbD 2 = s.isFailed ∧
    (csrStateWord s).getLsbD 3 = s.asleep ∧ (csrStateWord s).getLsbD 4 = s.pinCfg ∧
    (csrStateWord s).getLsbD 5 = s.busy ∧ (csrStateWord s).extractLsb' 6 10 = 0#10 := by
  simp (disch := decide) only [csrStateWord, BitVec.getLsbD_append, BitVec.extractLsb'_append_eq_of_le,
    BitVec.extractLsb'_append_eq_of_add_le]
  simp [bit]

/-- The environment is no part of the word, so that one reset state stands for all. -/
theorem csrStateWord_applyReset (e : State) : csrStateWord (applyReset e) = 0x0000#16 :=
  calc csrStateWord (applyReset e) = csrStateWord State.reset := rfl
    _ = 0x0000#16 := by decide

/-- Settles O40: the fields of the word, with what the two derived flags mean (R22, R30). -/
theorem csrStateLayout : Obligations.CsrStateLayout := by
  refine ⟨fun s => ⟨_, rfl, rfl, ?_⟩, ⟨rfl, rfl, rfl, rfl⟩, csrStateWord_applyReset⟩
  obtain ⟨hlc, hfail, hsl, hpin, hbusy, hzero⟩ := csrStateWord_fields s
  have failed_iff : s.isFailed = true ↔ s.lc = .failed := by simp [State.isFailed]
  have busy_iff : s.busy = true ↔ s.seq ≠ .idle := by simp [State.busy]
  exact ⟨hlc, by simpa only [csrRdata_selectCsr_one, hfail] using failed_iff, hsl, hpin,
    by simpa only [csrRdata_selectCsr_one, hbusy] using busy_iff, hzero⟩

/-! ## CSR 2 (R43) -/

/-- The word a status pair shows. -/
def statusWord (k : StKind) (m : StMsg) : Word := 0#11 ++ m.code ++ k.code

theorem csrStatusWord_eq (s : State) : csrStatusWord s = statusWord s.stKind s.stMsg := rfl

theorem statusWord_fields (k : StKind) (m : StMsg) : (statusWord k m).extractLsb' 0 2 = k.code ∧
    (statusWord k m).extractLsb' 2 3 = m.code ∧ (statusWord k m).extractLsb' 5 11 = 0#11 := by
  simp (disch := decide) only [statusWord, BitVec.extractLsb'_append_eq_of_le,
    BitVec.extractLsb'_append_eq_of_add_le]
  simp

/-- The rows of R43's table. -/
def statusRows : List (StKind × StMsg × Word) :=
  [(.ok, .none, 0x0000#16), (.warning, .none, 0x0001#16), (.warning, .vcell, 0x000D#16),
    (.warning, .soc, 0x0011#16), (.warning, .sleepWrite, 0x0015#16), (.error, .unrecognised, 0x0006#16),
    (.error, .sleepResetFailed, 0x000A#16)]

theorem statusWord_of_row : ∀ row ∈ statusRows, statusWord row.1 row.2.1 = row.2.2 := by decide

/-- The values of R43 are those of reachable states: the words of the seven pairs of R27. -/
theorem reachable_csrStatusWord_iff (v : Word) : (∃ s, Reachable s ∧ csrStatusWord s = v) ↔
    v ∈ statusPairs.map fun p => statusWord p.1 p.2 := by
  constructor
  · rintro ⟨s, hs, rfl⟩
    exact List.mem_map.2 ⟨_, inv_status_mem hs.inv, (csrStatusWord_eq s).symm⟩
  · intro hv
    obtain ⟨⟨k, m⟩, hp, rfl⟩ := List.mem_map.1 hv
    obtain ⟨s, hs, rfl, rfl⟩ := reachable_of_status_mem hp
    exact ⟨s, hs, csrStatusWord_eq s⟩

theorem statusPairs_words : statusPairs.map (fun p => statusWord p.1 p.2) =
    [0x0000#16, 0x0001#16, 0x000D#16, 0x0011#16, 0x0015#16, 0x0006#16, 0x000A#16] := by decide

/-- Settles O41: the fields of the word, R43's table, and the seven pairs of O15. -/
theorem csrStatusLayout : Obligations.CsrStatusLayout := by
  refine ⟨fun s => ⟨_, rfl, rfl, statusWord_fields _ _⟩, ⟨rfl, rfl, rfl⟩, ⟨rfl, rfl, rfl, rfl, rfl, rfl⟩,
    fun e => ?_, fun s row hrow hk hm => ?_, fun v => ?_⟩
  · exact statusWord_of_row (.ok, .none, 0x0000#16) (by decide)
  · rw [csrStatusWord_eq, hk, hm]
    exact statusWord_of_row row hrow
  · rw [reachable_csrStatusWord_iff, statusPairs_words]

/-! ## CSR 3 (R44) -/

theorem csrSinksWord_sinks (s : State) : (csrSinksWord s).getLsbD 0 = s.cfg.sinkV ∧
    (csrSinksWord s).getLsbD 1 = s.cfg.sinkSoc ∧ (csrSinksWord s).getLsbD 2 = s.cfg.sinkPs := by
  simp only [csrSinksWord, BitVec.getLsbD_append]
  simp [bit]

theorem csrSinksWord_holds (s : State) : (csrSinksWord s).getLsbD 3 = s.voltOut.valid ∧
    (csrSinksWord s).getLsbD 4 = s.socOut.valid ∧ (csrSinksWord s).getLsbD 5 = s.psrcOut.valid ∧
    (csrSinksWord s).getLsbD 6 = (s.psrcOut.valid && s.psrcOut.value) ∧
    (csrSinksWord s).extractLsb' 7 9 = 0#9 := by
  simp (disch := decide) only [csrSinksWord, BitVec.getLsbD_append, BitVec.extractLsb'_append_eq_of_le]
  simp [bit]

/-- After reset nothing is held: bits 15:3 are zero. -/
theorem csrSinksWord_applyReset (e : State) : (csrSinksWord (applyReset e)).extractLsb' 3 13 = 0#13 := by
  simp (disch := decide) only [csrSinksWord, BitVec.extractLsb'_append_eq_of_le, applyReset_psrcOut,
    applyReset_socOut, applyReset_voltOut]
  decide

/-- Settles O42: the fields of the word, the level by whether it is valid. -/
theorem csrSinksLayout : Obligations.CsrSinksLayout := by
  refine ⟨fun s => ⟨_, rfl, rfl, ?_⟩, fun e => ⟨csrSinksWord_applyReset e, csrSinksWord_sinks _⟩⟩
  obtain ⟨hv, hs, hp⟩ := csrSinksWord_sinks s
  obtain ⟨hvv, hsv, hpv, hlevel, hzero⟩ := csrSinksWord_holds s
  refine ⟨hv, hs, hp, hvv, hsv, hpv, fun h => ?_, fun h => ?_, hzero⟩
  · rw [csrRdata_selectCsr_three, hlevel, h, Bool.true_and]
  · rw [csrRdata_selectCsr_three, hlevel, h, Bool.false_and]

end Sys2Proof.Machine

/-! PROOFS. The request words (30_encoding.md R81): the six constants, each offered at its own position. -/

namespace Sys2Proof.Machine

/-- R81: `TREQ = kind<<26 | len<<24 | addr<<16 | wdata`. -/
theorem Request.word_eq_or_shifts (r : Request) :
    r.word = (r.kind.code.setWidth 28 <<< 26) ||| (r.len.setWidth 28 <<< 24) |||
      (r.addr.setWidth 28 <<< 16) ||| r.wdata.setWidth 28 :=
  (BitVec.setWidth_eq r.word).symm.trans BitVec.setWidth_append_append_append_eq_shiftLeft_setWidth_or

/-- The rows of R81's table, each with the position that offers it. -/
def requestRows : List (SeqPos × Primitive × Request × BitVec 28) :=
  [(.setupSel, .busWrite [0x0C#8], ⟨.write, 0b01#2, 0x00#8, 0x0C00#16⟩, 0x1000C00#28),
    (.setupRd, .busRead 2, ⟨.read, 0b10#2, 0x00#8, 0x0000#16⟩, 0x6000000#28),
    (.setupWb, .memWrite 0x0C#8 0x971C#16, ⟨.write16, 0b00#2, 0x0C#8, 0x971C#16⟩, 0xC0C971C#28),
    (.updV, .memRead 0x02#8, ⟨.read16, 0b00#2, 0x02#8, 0x0000#16⟩, 0x8020000#28),
    (.updSoc, .memRead 0x04#8, ⟨.read16, 0b00#2, 0x04#8, 0x0000#16⟩, 0x8040000#28),
    (.slpWr, .memWrite 0x0C#8 0x979C#16, ⟨.write16, 0b00#2, 0x0C#8, 0x979C#16⟩, 0xC0C979C#28)]

theorem requestRows_word_primitive : ∀ row ∈ requestRows,
    row.2.2.1.word = row.2.2.2 ∧ row.2.2.1.primitive = some row.2.1 := by decide

theorem requestRows_request : ∀ row ∈ requestRows, row.1.request = some row.2.2.1 := by decide

theorem exists_requestRow_of_request {q : SeqPos} {r : Request} (h : q.request = some r) :
    ∃ p, (q, p, r, r.word) ∈ requestRows := by
  cases q <;> cases h
  case setupSel => exact ⟨.busWrite [0x0C#8], by decide⟩
  case setupRd => exact ⟨.busRead 2, by decide⟩
  case setupWb => exact ⟨.memWrite 0x0C#8 0x971C#16, by decide⟩
  case updV => exact ⟨.memRead 0x02#8, by decide⟩
  case updSoc => exact ⟨.memRead 0x04#8, by decide⟩
  case slpWr => exact ⟨.memWrite 0x0C#8 0x979C#16, by decide⟩

/-- The table's rows are the requests the positions wait on, with their words. -/
theorem exists_requestRow_iff (q : SeqPos) (w : BitVec 28) :
    (∃ p r, (q, p, r, w) ∈ requestRows) ↔ ∃ r, q.request = some r ∧ r.word = w := by
  constructor
  · rintro ⟨p, r, hrow⟩
    exact ⟨r, requestRows_request _ hrow, (requestRows_word_primitive _ hrow).1⟩
  · rintro ⟨r, hq, rfl⟩
    obtain ⟨p, hrow⟩ := exists_requestRow_of_request hq
    exact ⟨p, r, hrow⟩

/-- The position and the offered word after `n` steps of a fresh block. -/
def offeredAfter (n : Nat) (inputs : List PortInput) : Option (SeqPos × Option (BitVec 28)) :=
  match Sys2Proof.core.run n (freshBlock inputs) with
  | .next t => some (t.seq, t.tReq)
  | .fault _ => none
  | .refused _ => none

theorem reachable_of_offeredAfter {n : Nat} {inputs : List PortInput} {q : SeqPos} {w : BitVec 28}
    (h : offeredAfter n inputs = some (q, some w)) : ∃ s, Reachable s ∧ s.seq = q ∧ s.tReq = some w := by
  cases hrun : Sys2Proof.core.run n (freshBlock inputs) with
  | next t =>
    obtain ⟨rfl, ht⟩ : t.seq = q ∧ t.tReq = some w := by simpa [offeredAfter, hrun] using h
    exact ⟨t, (Reachable.start _).run n hrun, rfl, ht⟩
  | fault r => simp [offeredAfter, hrun] at h
  | refused r => simp [offeredAfter, hrun] at h

/-- Each position that waits on a request offers its word in a run: in SETUP as the answers come, in
UPDATE and SLEEP after a SETUP that succeeds. -/
theorem reachable_of_request {q : SeqPos} {r : Request} (h : q.request = some r) :
    ∃ s, Reachable s ∧ s.seq = q ∧ s.tReq = some r.word := by
  cases q <;> cases h
  case setupSel => exact reachable_of_offeredAfter (n := 1) (inputs := goodSetup) rfl
  case setupRd => exact reachable_of_offeredAfter (n := 3) (inputs := goodSetup) rfl
  case setupWb => exact reachable_of_offeredAfter (n := 5) (inputs := goodSetup) rfl
  case updV => exact reachable_of_offeredAfter (n := 9) (inputs := goodSetup ++ [.cmd 2#2]) rfl
  case updSoc =>
    exact reachable_of_offeredAfter (n := 11) (inputs := goodSetup ++ [.cmd 2#2, .answer 0#17]) rfl
  case slpWr => exact reachable_of_offeredAfter (n := 9) (inputs := goodSetup ++ [.cmd 3#2]) rfl

/-- By the invariant an offered word is that of its position's request, and each of those is offered. -/
theorem reachable_offered_iff (q : SeqPos) (w : BitVec 28) :
    (∃ s, Reachable s ∧ s.seq = q ∧ s.tReq = some w) ↔ ∃ r, q.request = some r ∧ r.word = w := by
  constructor
  · rintro ⟨s, hs, rfl, hw⟩
    exact (hs.inv.port.offered w hw).2
  · rintro ⟨r, hq, rfl⟩
    exact reachable_of_request hq

/-- Settles O24: reachable blocks offer the words of their positions' requests, which are the table's rows. -/
theorem offeredWordsAreTheSix : Obligations.OfferedWordsAreTheSix :=
  ⟨fun q w => (reachable_offered_iff q w).trans (exists_requestRow_iff q w).symm,
    requestRows_word_primitive, Request.word_eq_or_shifts⟩

end Sys2Proof.Machine

/-! PROOFS. The identity check (40_setup.md R109): the mask keeps a word's high byte and its low five bits, and
the three bits between them are free. -/

namespace Sys2Proof.Machine

/-! ## A configuration word by its fields: bits 15:8, the masked bits 7:5, bits 4:0 -/

/-- The word with the given fields. -/
def wordOfFields (hi : Byte) (mid : BitVec 3) (lo : BitVec 5) : Word := hi ++ mid ++ lo

theorem wordOfFields_of_word (c : Word) :
    wordOfFields (hiByte c) (c.extractLsb' 5 3) (c.extractLsb' 0 5) = c := by
  rw [wordOfFields, hiByte, BitVec.extractLsb'_append_extractLsb'_eq_extractLsb' (by rfl : 8 = 5 + 3),
    BitVec.extractLsb'_append_extractLsb'_eq_extractLsb' (by rfl : 5 = 0 + 5), BitVec.extractLsb'_eq_self]

theorem fields_of_wordOfFields (hi : Byte) (mid : BitVec 3) (lo : BitVec 5) :
    hiByte (wordOfFields hi mid lo) = hi ∧ (wordOfFields hi mid lo).extractLsb' 5 3 = mid ∧
      (wordOfFields hi mid lo).extractLsb' 0 5 = lo := by
  simp (disch := decide) only [wordOfFields, hiByte, BitVec.extractLsb'_append_eq_of_le,
    BitVec.extractLsb'_append_eq_of_add_le]
  simp

theorem wordOfFields_inj {hi hi' : Byte} {mid mid' : BitVec 3} {lo lo' : BitVec 5} :
    wordOfFields hi mid lo = wordOfFields hi' mid' lo' ↔ hi = hi' ∧ mid = mid' ∧ lo = lo' := by
  constructor
  · intro h
    simpa only [h, fields_of_wordOfFields hi' mid' lo', eq_comm] using fields_of_wordOfFields hi mid lo
  · rintro ⟨rfl, rfl, rfl⟩
    rfl

/-- `SAFE_MASK` clears bits 7:5 and keeps the other fields (R10, R103). -/
theorem maskedConfig_wordOfFields (hi : Byte) (mid : BitVec 3) (lo : BitVec 5) :
    maskedConfig (wordOfFields hi mid lo) = wordOfFields hi 0#3 lo := by
  have hmask : safeMask = BitVec.allOnes 8 ++ 0#3 ++ BitVec.allOnes 5 := by decide
  rw [maskedConfig, hmask, wordOfFields, BitVec.and_append, BitVec.and_append, BitVec.and_allOnes,
    BitVec.and_zero, BitVec.and_allOnes, wordOfFields]

/-! ## The words that pass -/

theorem idMatch_iff_fields (c : Word) :
    idMatch c = true ↔ hiByte c = 0x97#8 ∧ c.extractLsb' 0 5 = 0b11100#5 := by
  have hdefault : configDefault = wordOfFields 0x97#8 0#3 0b11100#5 := by decide
  calc idMatch c = true
    _ ↔ maskedConfig c = configDefault := beq_iff_eq
    _ ↔ wordOfFields (hiByte c) 0#3 (c.extractLsb' 0 5) = wordOfFields 0x97#8 0#3 0b11100#5 := by
      conv_lhs => rw [← wordOfFields_of_word c, maskedConfig_wordOfFields, hdefault]
    _ ↔ hiByte c = 0x97#8 ∧ c.extractLsb' 0 5 = 0b11100#5 := by simp [wordOfFields_inj]

/-- The `k`-th word the check accepts: bits 7:5 hold `k`, the rest is the power-up default (R109). -/
def acceptedWord (k : Nat) : Word := 0x971C#16 ||| (BitVec.ofNat 16 k <<< 5)

theorem acceptedWord_toNat (mid : BitVec 3) : acceptedWord mid.toNat = wordOfFields 0x97#8 mid 0b11100#5 := by
  decide +revert

theorem idMatch_acceptedWord : ∀ k < 8, idMatch (acceptedWord k) = true := by decide

/-- A word that passes has only bits 7:5 free, and they are the `k`. -/
theorem idMatch_iff_exists_accepted (c : Word) : idMatch c = true ↔ ∃ k < 8, c = acceptedWord k := by
  constructor
  · intro h
    obtain ⟨hhi, hlo⟩ := (idMatch_iff_fields c).1 h
    refine ⟨(c.extractLsb' 5 3).toNat, (c.extractLsb' 5 3).isLt, ?_⟩
    rw [acceptedWord_toNat, ← hhi, ← hlo, wordOfFields_of_word]
  · rintro ⟨k, hk, rfl⟩
    exact idMatch_acceptedWord k hk

theorem acceptedWord_list : (List.range 8).map acceptedWord = [0x971C#16, 0x973C#16, 0x975C#16, 0x977C#16,
    0x979C#16, 0x97BC#16, 0x97DC#16, 0x97FC#16] := by decide

theorem idMatch_iff_mem (c : Word) : idMatch c = true ↔ c ∈ (List.range 8).map acceptedWord := by
  simp only [idMatch_iff_exists_accepted, List.mem_map, List.mem_range, @eq_comm Word c]

/-- Settles O43: the fields the mask keeps decide the check, and the free field counts the eight words. -/
theorem idMatchIsTrueForEightValues : Obligations.IdMatchIsTrueForEightValues :=
  ⟨idMatch_iff, idMatch_iff_exists_accepted, fun c => acceptedWord_list ▸ idMatch_iff_mem c,
    idMatch_iff_fields, by decide, by decide, by decide⟩

end Sys2Proof.Machine

/-! PROOFS. The readings of an UPDATE (41_update.md R120 to R133): what an answer does, and how the command
goes on. -/

namespace Sys2Proof.Machine

variable {s : State}

/-! ## An answer to the outstanding request (R80, R83) -/

/-- The state in which the sequencer goes on: the request is over and the answer recorded. -/
def answered (c : Answer) (s : State) : State := record (.tRsp c) { s with outstanding := none }

theorem exec_tOk_of_outstanding {r : Request} (ho : s.outstanding = some r) (d : Word) :
    exec (.tOk d) s = .next (resumeOk d (answered (r.okAnswer d) s)) :=
  congrArg Host.Outcome.next (takeAnswer_of_some s _ _ ho)

theorem exec_tErr_of_outstanding {r : Request} (ho : s.outstanding = some r) (d : Word) :
    exec (.tErr d) s = .next (resumeErr (answered .err s)) :=
  congrArg Host.Outcome.next (takeAnswer_of_some s _ _ ho)

theorem resumeOk_of_updV (hq : s.seq = .updV) (d : Word) : resumeOk d s = voltSuccess d s := by
  simp [resumeOk, hq]

theorem resumeOk_of_updSoc (hq : s.seq = .updSoc) (d : Word) : resumeOk d s = socSuccess d s := by
  simp [resumeOk, hq]

theorem resumeErr_of_updV (hq : s.seq = .updV) : resumeErr s = voltFailure s := by
  simp [resumeErr, hq]

theorem resumeErr_of_updSoc (hq : s.seq = .updSoc) : resumeErr s = socFailure s := by
  simp [resumeErr, hq]

theorem exec_tOk_of_updV {r : Request} (ho : s.outstanding = some r) (hq : s.seq = .updV) (d : Word) :
    exec (.tOk d) s = .next (voltSuccess d (answered (r.okAnswer d) s)) :=
  (exec_tOk_of_outstanding ho d).trans (congrArg Host.Outcome.next (resumeOk_of_updV (by exact hq) d))

theorem exec_tErr_of_updV {r : Request} (ho : s.outstanding = some r) (hq : s.seq = .updV) (d : Word) :
    exec (.tErr d) s = .next (voltFailure (answered .err s)) :=
  (exec_tErr_of_outstanding ho d).trans (congrArg Host.Outcome.next (resumeErr_of_updV (by exact hq)))

theorem exec_tErr_of_updSoc {r : Request} (ho : s.outstanding = some r) (hq : s.seq = .updSoc) (d : Word) :
    exec (.tErr d) s = .next (socFailure (answered .err s)) :=
  (exec_tErr_of_outstanding ho d).trans (congrArg Host.Outcome.next (resumeErr_of_updSoc (by exact hq)))

/-! ## How UPDATE goes on after a reading (R131 to R133) -/

/-- What belongs to the readings: the flags, the status, the holding registers, the strobes, the outstanding
request and the record. -/
structure ReadingsKept (s t : State) : Prop where
  lc : t.lc = s.lc
  asleep : t.asleep = s.asleep
  pinCfg : t.pinCfg = s.pinCfg
  stKind : t.stKind = s.stKind
  stMsg : t.stMsg = s.stMsg
  voltOut : t.voltOut = s.voltOut
  socOut : t.socOut = s.socOut
  psrcOut : t.psrcOut = s.psrcOut
  vStrobe : t.vStrobe = s.vStrobe
  socStrobe : t.socStrobe = s.socStrobe
  psStrobe : t.psStrobe = s.psStrobe
  outstanding : t.outstanding = s.outstanding
  trace : t.trace = s.trace

theorem updatePower_keeps (s : State) : ReadingsKept s (updatePower s) := by
  cases hp : s.cfg.sinkPs with
  | true => rw [updatePower_of_present s hp]; constructor <;> rfl
  | false => rw [updatePower_of_absent s hp]; constructor <;> simp

theorem updateSoc_keeps (s : State) : ReadingsKept s (updateSoc s) := by
  cases hs : s.cfg.sinkSoc with
  | true => rw [updateSoc_of_present s hs]; constructor <;> rfl
  | false => rw [updateSoc_of_absent s hs]; exact updatePower_keeps s

/-- The power-source reading starts, if its sink is present, or the command ends. -/
theorem updatePower_goesOn (s : State) : (updatePower s).tReq = s.tReq ∧
    (s.cfg.sinkPs = true → (updatePower s).seq = .updPs ∧ (updatePower s).rsp = s.rsp) ∧
    (s.cfg.sinkPs = false → (updatePower s).seq = .idle ∧ (updatePower s).rsp = some 0b00#2) := by
  cases hp : s.cfg.sinkPs with
  | true => simp [updatePower_of_present s hp]
  | false => simp [updatePower_of_absent s hp, Completion.code]

/-- The state-of-charge reading starts, if its sink is present, or is skipped. -/
theorem updateSoc_goesOn (s : State) :
    (s.cfg.sinkSoc = true → (updateSoc s).seq = .updSoc ∧ (updateSoc s).tReq = some 0x8040000#28 ∧
      (updateSoc s).rsp = s.rsp) ∧
    (s.cfg.sinkSoc = false → updateSoc s = updatePower s) :=
  ⟨fun hs => by rw [updateSoc_of_present s hs]; exact ⟨rfl, rfl, rfl⟩, updateSoc_of_absent s⟩

/-! ## The readings -/

/-- Settles O31: the reading is held and published and clears a warning, and what follows keeps all three. -/
theorem voltageReadingSucceeds : Obligations.VoltageReadingSucceeds := by
  intro s r raw ho hq
  refine ⟨_, exec_tOk_of_updV ho hq raw, ?_⟩
  unfold voltSuccess
  generalize hu : clearWarning _ = u
  have hcfg : u.cfg = s.cfg := by simp [← hu, answered]
  have htReq : u.tReq = s.tReq := by simp [← hu, answered]
  have hrsp : u.rsp = s.rsp := by simp [← hu, answered]
  have kept := updateSoc_keeps u
  obtain ⟨toSoc, skipSoc⟩ := updateSoc_goesOn u
  obtain ⟨sameReq, toPs, toEnd⟩ := updatePower_goesOn u
  rw [hcfg] at toSoc skipSoc toPs toEnd
  rw [hrsp] at toSoc toPs
  rw [htReq] at sameReq
  have held : (updateSoc u).voltOut = ⟨true, rne32 (vdec raw)⟩ := by
    rw [kept.voltOut, ← hu, clearWarning_voltOut]
    rfl
  have strobe : (updateSoc u).vStrobe = true := by
    rw [kept.vStrobe, ← hu, clearWarning_vStrobe]
    rfl
  refine ⟨held, congrArg NumHold.value held, strobe, fun hk => ?_, fun hk => ?_, toSoc, fun hs hp => ?_,
    fun hs hp => ?_, ?_⟩
  · rw [kept.stKind, kept.stMsg, kept.trace, ← hu, clearWarning_of_warning _ (by exact hk)]
    simp [answered, voltWord]
  · rw [kept.stKind, kept.stMsg, kept.trace, ← hu, clearWarning_of_not_warning _ (by exact hk)]
    simp [answered, voltWord]
  · rw [skipSoc hs]
    exact ⟨(toPs hp).1, sameReq, (toPs hp).2⟩
  · rw [skipSoc hs]
    exact ⟨(toEnd hp).1, sameReq, (toEnd hp).2⟩
  · rw [kept.outstanding, kept.lc, kept.asleep, kept.pinCfg, kept.socOut, kept.psrcOut, kept.socStrobe,
      kept.psStrobe, ← hu]
    simp [answered]

/-- Settles O33: a warning replaces the status, and what follows keeps it with all the rest. -/
theorem failedReadingKeepsPublishedValues : Obligations.FailedReadingKeepsPublishedValues := by
  intro s r d ho hq
  rcases hq with hq | hq
  · refine ⟨_, exec_tErr_of_updV ho hq d, ?_⟩
    have kept := updateSoc_keeps (raise (.warn .vcell) (answered .err s))
    obtain ⟨toSoc, skipSoc⟩ := updateSoc_goesOn (raise (.warn .vcell) (answered .err s))
    refine ⟨kept.stKind, fun _ => ⟨kept.stMsg, ?_, toSoc⟩, by simp [hq], fun hs => ?_,
      kept.voltOut, kept.socOut, kept.psrcOut, kept.vStrobe, kept.socStrobe, kept.psStrobe, kept.outstanding,
      kept.lc, kept.asleep, kept.pinCfg⟩
    · rw [voltFailure, kept.trace]
      simp [raise_warn, answered, WarnCause.msg]
    · rw [voltFailure, skipSoc (hs.resolve_left (by simp [hq]))]
      exact updatePower_goesOn _
  · refine ⟨_, exec_tErr_of_updSoc ho hq d, ?_⟩
    have kept := updatePower_keeps (raise (.warn .soc) (answered .err s))
    refine ⟨kept.stKind, by simp [hq], fun _ => ⟨kept.stMsg, ?_⟩, fun _ => updatePower_goesOn _,
      kept.voltOut, kept.socOut, kept.psrcOut, kept.vStrobe, kept.socStrobe, kept.psStrobe, kept.outstanding,
      kept.lc, kept.asleep, kept.pinCfg⟩
    rw [socFailure, kept.trace]
    simp [raise_warn, answered, WarnCause.msg]

end Sys2Proof.Machine

/-! PROOFS. The run of an UPDATE (41_update.md R131, R136): the status it leaves. -/

namespace Sys2Proof.Machine

variable {s t : State}

/-- An answer word by its fields (R80). -/
theorem decodeTrsp_eq (a : BitVec 17) :
    decodeTrsp a = if trspOk a then .tOk (trspData a) else .tErr (trspData a) := by
  simp only [decodeTrsp, trspOk, trspData, BitVec.getLsbD_eq_extractLsb', beq_iff_eq]

/-! ## Steps of a block that serves a command -/

/-- The transport takes an offered request. -/
theorem step_of_offered {r : Request} (hreset : ¬ s.resetAsserted) (hrsp : s.rsp = none)
    (ht : s.tReq = some r.word) (hready : s.tReady = true) :
    step s = .next (issue r (clearStrobes s)) := by
  obtain ⟨r', hr, he⟩ := exec_decodeTreq r.word
  rw [step, nextAction_of_no_reset hreset, ← Request.word_injective hr]
  simp [nextTransfer, nextRequest, hrsp, ht, hready, runAction, runWord, he]

/-- The sequencer samples the line. -/
theorem step_of_updPs (hreset : ¬ s.resetAsserted) (hrsp : s.rsp = none) (ht : s.tReq = none)
    (hq : s.seq = .updPs) : step s = .next (powerSample (clearStrobes s)) := by
  rw [step, nextAction_of_no_reset hreset]
  simp [nextTransfer, nextRequest, nextSample, hrsp, ht, hq, runAction]

/-- What the sequencer does with an answer word. -/
def resume (a : BitVec 17) (s : State) : State :=
  if trspOk a then resumeOk (trspData a) s else resumeErr s

/-- At rest, an answer that comes takes the sequencer on. -/
theorem step_of_answer {r : Request} {a : BitVec 17} {rest : List PortInput} (h : s.AtRest)
    (ho : s.outstanding = some r) (hin : s.inputs = .answer a :: rest) :
    ∃ c, step s = .next (resume a (answered c (setInputs rest (clearStrobes s)))) := by
  have hstep : step s = exec (decodeTrsp a) (setInputs rest (clearStrobes s)) := by
    rw [step_of_atRest h (by simp [State.resetAsserted, hin])]
    simp [nextInput, hin, runAction, runWord]
  rw [hstep, decodeTrsp_eq]
  cases ha : trspOk a with
  | true => exact ⟨_, by simpa [resume, ha] using
      exec_tOk_of_outstanding (s := setInputs rest (clearStrobes s)) ho _⟩
  | false => exact ⟨_, by simpa [resume, ha] using
      exec_tErr_of_outstanding (s := setInputs rest (clearStrobes s)) ho (trspData a)⟩

/-- At rest, a command that comes is executed. -/
theorem step_of_command {w : BitVec 2} {rest : List PortInput} (h : s.AtRest)
    (hin : s.inputs = .cmd w :: rest) :
    step s = exec (decodeCmd w) (setInputs rest (clearStrobes s)) := by
  rw [step_of_atRest h (by simp [State.resetAsserted, hin])]
  simp [nextInput, hin, runAction, runWord]

theorem exec_update_of_idle (hq : s.seq = .idle) :
    exec .update s = .next (acceptUpdate (record (.cmd .update) s)) :=
  congrArg Host.Outcome.next (atCommandPort_of_idle _ _ _ hq)

/-! ## A reading of a `READY` block -/

/-- A `READY` block that takes an answer is between two requests. -/
theorem serving_answered (h : Inv s) (hlc : s.lc = .ready) {r : Request} (ho : s.outstanding = some r)
    (c : Answer) : Serving (answered c s) :=
  serving_of_ready { h.mode with } hlc (portsClear_of_answered h ho (.tRsp c))

/-- What the transfers of a reading leave as it is. -/
structure ReadingFrame (s u : State) : Prop where
  asleep : u.asleep = s.asleep
  cfg : u.cfg = s.cfg
  tReady : u.tReady = s.tReady

/-- The status after a reading of a `READY` block: none but `OK` after a good answer, its own warning after a
failed one (R124, R127 to R129). -/
def readingStatus (c : WarnCause) (ok : Bool) : StKind × StMsg :=
  if ok then (.ok, .none) else (.warning, c.msg)

/-- What a reading that is answered leaves to the next. -/
structure ReadingDone (c : WarnCause) (ok : Bool) (s u : State) : Prop extends ReadingFrame s u where
  serving : Serving u
  inputs : u.inputs = s.inputs
  status : (u.stKind, u.stMsg) = readingStatus c ok

/-- `ClearWarning` leaves a `READY` block no status but `OK` (R46 e). -/
theorem Serving.clearWarning_done (h : Serving s) (c : WarnCause) : ReadingDone c true s (clearWarning s) where
  asleep := by simp
  cfg := by simp
  tReady := by simp
  serving := h.after_clearWarning
  inputs := by simp
  status := by
    by_cases hk : s.stKind = .warning
    · rw [clearWarning_of_warning s hk]; rfl
    · rw [clearWarning_of_not_warning s hk]
      rcases h.status with ⟨hok, hnone⟩ | ⟨hw, -⟩ | ⟨hw, -⟩ | ⟨hw, -⟩
      · rw [hok, hnone]; rfl
      all_goals exact absurd hw hk

theorem Serving.warn_done (h : Serving s) (c : WarnCause) : ReadingDone c false s (raise (.warn c) s) :=
  { asleep := rfl, cfg := rfl, tReady := rfl, serving := h.after_warn c, inputs := rfl, status := rfl }

/-- The voltage reading is answered, and the state-of-charge reading is next (R124, R128). -/
theorem Serving.resume_volt (h : Serving s) (hq : s.seq = .updV) (a : BitVec 17) :
    ∃ u, resume a s = updateSoc u ∧ ReadingDone .vcell (trspOk a) s u := by
  unfold resume
  cases trspOk a with
  | true =>
    have published : Serving (publishVolt (voltWord (trspData a)) { s with buf := trspData a }) :=
      h.of_eq rfl rfl h.status rfl rfl rfl
    exact ⟨_, resumeOk_of_updV hq _, { published.clearWarning_done .vcell with }⟩
  | false => exact ⟨_, resumeErr_of_updV hq, h.warn_done .vcell⟩

/-- The state-of-charge reading is answered, and the power-source reading is next (R127, R129). -/
theorem Serving.resume_soc (h : Serving s) (hq : s.seq = .updSoc) (a : BitVec 17) :
    ∃ u, resume a s = updatePower u ∧ ReadingDone .soc (trspOk a) s u := by
  unfold resume
  cases trspOk a with
  | true =>
    have published : Serving (publishSoc (socWord (trspData a)) { s with buf := trspData a }) :=
      h.of_eq rfl rfl h.status rfl rfl rfl
    exact ⟨_, resumeOk_of_updSoc hq _, { published.clearWarning_done .soc with }⟩
  | false => exact ⟨_, resumeErr_of_updSoc hq, h.warn_done .soc⟩

/-! ## The run of an UPDATE, from its last reading back to its first -/

/-- A run from `s` ends an UPDATE with this `ASLEEP` and this status pair. -/
def EndsUpdate (s : State) (asleep : Bool) (status : StKind × StMsg) : Prop :=
  ∃ n t, Sys2Proof.core.run n s = .next t ∧ t.seq = .idle ∧ t.rsp = some 0b00#2 ∧ t.lc = .ready ∧
    t.asleep = asleep ∧ t.pinCfg = true ∧ (t.stKind, t.stMsg) = status

theorem EndsUpdate.of_step {asleep : Bool} {p : StKind × StMsg} (hstep : step s = .next t)
    (h : EndsUpdate t asleep p) : EndsUpdate s asleep p := by
  obtain ⟨n, u, hn, hu⟩ := h
  exact ⟨n + 1, u, (run_succ n hstep).trans hn, hu⟩

theorem EndsUpdate.of_idle (hq : s.seq = .idle) (hrsp : s.rsp = some 0b00#2) (hlc : s.lc = .ready)
    (hpin : s.pinCfg = true) : EndsUpdate s s.asleep (s.stKind, s.stMsg) :=
  ⟨0, s, rfl, hq, hrsp, hlc, rfl, hpin, rfl⟩

/-- An offered request takes two transfers: the transport takes it, and answers. -/
theorem endsUpdate_of_offered (h : Inv s) (hlc : s.lc = .ready) {r : Request} (ht : s.tReq = some r.word)
    (hready : s.tReady = true) {a : BitVec 17} {rest : List PortInput} (hin : s.inputs = .answer a :: rest)
    {asleep : Bool} {p : StKind × StMsg}
    (hends : ∀ u, Serving u → u.seq = s.seq → u.inputs = rest → ReadingFrame s u →
      EndsUpdate (resume a u) asleep p) : EndsUpdate s asleep p := by
  have hissued : Inv (issue r (clearStrobes s)) := inv_issue (inv_clearStrobes h) ht
  obtain ⟨hq, -, hrsp⟩ := inv_outstanding hissued rfl
  have hrest : (issue r (clearStrobes s)).AtRest := by
    refine ⟨hrsp, .inl rfl, .inr fun hi => ?_, fun hi => ?_⟩ <;> rw [hi] at hq <;> cases hq
  obtain ⟨c, hanswer⟩ := step_of_answer hrest rfl hin
  have hserving := serving_answered (inv_setInputs (inv_clearStrobes hissued) rest) hlc rfl c
  refine .of_step (step_of_offered (by simp [State.resetAsserted, hin]) hrsp ht hready)
    (.of_step hanswer (hends _ hserving ?_ ?_ ?_))
  · simp [answered]
  · simp [answered]
  · constructor <;> simp [answered]

/-- The power-source reading, present or not, ends the command and leaves the status (R130, R133). -/
theorem Serving.updatePower_endsUpdate (h : Serving s) (hin : s.inputs = []) :
    EndsUpdate (updatePower s) s.asleep (s.stKind, s.stMsg) := by
  cases hp : s.cfg.sinkPs with
  | true =>
    rw [updatePower_of_present s hp]
    have hstep := step_of_updPs (s := { s with seq := .updPs }) (by simp [State.resetAsserted, hin])
      h.clear.rsp h.clear.tReq rfl
    refine .of_step hstep ?_
    simpa [powerSample] using EndsUpdate.of_idle (s := powerSample (clearStrobes { s with seq := .updPs }))
      (by simp [powerSample]) rfl (by simp [powerSample, h.lc]) (by simp [powerSample, h.pinCfg])
  | false =>
    rw [updatePower_of_absent s hp]
    simpa using EndsUpdate.of_idle (endCommand_seq s .done) rfl (by simpa using h.lc) (by simpa using h.pinCfg)

/-- The state-of-charge reading, if present, decides the status (R131). -/
theorem Serving.updateSoc_endsUpdate (h : Serving s) {b : BitVec 17} (hready : s.tReady = true)
    (hin : s.inputs = if s.cfg.sinkSoc then [.answer b] else []) :
    EndsUpdate (updateSoc s) s.asleep
      (if s.cfg.sinkSoc then readingStatus .soc (trspOk b) else (s.stKind, s.stMsg)) := by
  cases hs : s.cfg.sinkSoc with
  | true =>
    rw [hs, if_pos rfl] at hin
    rw [updateSoc_of_present s hs, if_pos rfl]
    have hinv : Inv (offer reqRdSoc.word { s with seq := .updSoc }) :=
      h.inv_offer .updSoc rfl rfl nofun fun _ => hs
    refine endsUpdate_of_offered hinv h.lc rfl hready hin fun u hu hq hin' hf => ?_
    obtain ⟨v, hv, done⟩ := hu.resume_soc hq b
    have hsl : v.asleep = s.asleep := done.asleep.trans hf.asleep
    rw [hv, ← done.status, ← hsl]
    exact done.serving.updatePower_endsUpdate (done.inputs.trans hin')
  | false =>
    rw [hs, if_neg nofun] at hin
    rw [updateSoc_of_absent s hs, if_neg nofun]
    exact h.updatePower_endsUpdate hin

/-- R136: the last numeric reading that is made decides the status. -/
def updateStatus (s : State) (a b : BitVec 17) : StKind × StMsg :=
  if s.cfg.sinkSoc then readingStatus .soc (trspOk b)
  else if s.cfg.sinkV then readingStatus .vcell (trspOk a)
  else (s.stKind, s.stMsg)

/-- The voltage reading, if present, comes before the state-of-charge reading (R133). -/
theorem Serving.updateVolt_endsUpdate (h : Serving s) {a b : BitVec 17} (hready : s.tReady = true)
    (hin : s.inputs = (if s.cfg.sinkV then [.answer a] else []) ++
      (if s.cfg.sinkSoc then [.answer b] else [])) :
    EndsUpdate (updateVolt s) s.asleep (updateStatus s a b) := by
  rw [updateStatus]
  cases hv : s.cfg.sinkV with
  | true =>
    rw [hv, if_pos rfl] at hin
    rw [updateVolt_of_present s hv, if_pos rfl]
    have hinv : Inv (offer reqRdVcell.word { s with seq := .updV }) :=
      h.inv_offer .updV rfl rfl (fun _ => hv) nofun
    refine endsUpdate_of_offered hinv h.lc rfl hready hin fun u hu hq hin' hf => ?_
    obtain ⟨v, hv', done⟩ := hu.resume_volt hq a
    have hsl : v.asleep = s.asleep := done.asleep.trans hf.asleep
    have hcfg : v.cfg = s.cfg := done.cfg.trans hf.cfg
    have hready' : v.tReady = true := (done.tReady.trans hf.tReady).trans hready
    rw [hv', ← done.status, ← hsl, ← hcfg]
    exact done.serving.updateSoc_endsUpdate hready' (by rw [done.inputs, hin', hcfg]; rfl)
  | false =>
    rw [updateVolt_of_absent s hv]
    exact h.updateSoc_endsUpdate hready (by simpa [hv] using hin)

/-- A legal UPDATE of a waiting block: the command is taken, and the readings follow. -/
theorem endsUpdate_of_waiting {a b : BitVec 17} (h : Inv s) (hw : s.Waiting) (hlc : s.lc = .ready)
    (hin : s.inputs = .cmd 0b10#2 :: ((if s.cfg.sinkV then [.answer a] else []) ++
      (if s.cfg.sinkSoc then [.answer b] else []))) :
    EndsUpdate s s.asleep (updateStatus s a b) := by
  obtain ⟨hq, hrsp, htr, hout, hcmds, hready⟩ := hw
  have hrest : s.AtRest := ⟨hrsp, .inl htr, .inl hcmds, by simp [hq]⟩
  have hstep := step_of_command hrest hin
  rw [show decodeCmd 0b10#2 = .update from rfl, exec_update_of_idle (by exact hq),
    acceptUpdate_of_ready _ (by exact hlc)] at hstep
  have hserving : Serving s := serving_of_ready h.mode hlc ⟨htr, hout, hrsp⟩
  refine .of_step hstep (Serving.updateVolt_endsUpdate ?_ hready rfl)
  exact hserving.of_eq rfl rfl hserving.status rfl rfl rfl

/-- Settles O57: the last numeric reading decides, and with none of them the status stands. -/
theorem statusAfterUpdate : Obligations.StatusAfterUpdate := by
  intro s a b h hw hlc hin
  obtain ⟨n, t, hrun, hq, hrsp, htlc, hsl, hpin, hst⟩ := endsUpdate_of_waiting h hw hlc hin
  refine ⟨n, t, hrun, hq, hrsp, htlc.trans hlc.symm, hsl, ?_, ?_, ?_, ?_, ?_⟩
  · rw [hpin, h.mode.pin_iff_ready.2 hlc]
  all_goals
    intro hv hs
    rw [hst, updateStatus, hv, hs]
    simp +contextual [readingStatus, WarnCause.msg]

end Sys2Proof.Machine

/-! PROOFS. The two linear decodes (41_update.md R123, R126) as rationals in the raw word's fields. -/

namespace Sys2Proof.Machine

/-! ## The voltage (R123) -/

/-- The top 12 bits are the quotient by 16. -/
theorem topBits_toNat (raw : Word) : (raw.extractLsb' 4 12).toNat = raw.toNat / 16 := by
  have hraw := raw.isLt
  rw [BitVec.extractLsb'_toNat, Nat.shiftRight_eq_div_pow]
  omega

/-- The voltage field is the top 12 bits. -/
theorem voltField_eq_setWidth (raw : Word) : voltField raw = (raw.extractLsb' 4 12).setWidth 16 := by
  apply BitVec.eq_of_toNat_eq
  have hraw := raw.isLt
  rw [voltField, BitVec.toNat_ushiftRight, BitVec.toNat_setWidth, topBits_toNat, Nat.shiftRight_eq_div_pow]
  omega

theorem vdec_eq (raw : Word) : vdec raw = ⟨5 * (raw.extractLsb' 4 12).toNat, 4 * 1000⟩ := by
  rw [vdec, voltField_eq_setWidth, BitVec.toNat_setWidth_of_le (by decide)]

theorem vdec_val (raw : Word) : (vdec raw).val = ((raw.extractLsb' 4 12).toNat : Rat) / 800 := by
  rw [vdec_eq, ExactQ.val]
  push_cast
  ring

/-- The volts order words as their top 12 bits do. -/
theorem vdec_val_le_iff (a b : Word) :
    (vdec a).val ≤ (vdec b).val ↔ (a.extractLsb' 4 12).toNat ≤ (b.extractLsb' 4 12).toNat := by
  rw [vdec_val, vdec_val, div_le_div_iff_of_pos_right (by norm_num), Nat.cast_le]

theorem vdec_val_eq_iff (raw : Word) (n : Nat) :
    (vdec raw).val = (n : Rat) / 800 ↔ raw.toNat / 16 = n := by
  rw [vdec_val, topBits_toNat, div_left_inj' (by norm_num), Nat.cast_inj]

theorem vdec_val_bounds (raw : Word) : 0 ≤ (vdec raw).val ∧ (vdec raw).val ≤ 511875 / 100000 ∧
    ((vdec raw).val = 0 ↔ raw.toNat ≤ 0x000F) ∧
    ((vdec raw).val = 511875 / 100000 ↔ 0xFFF0 ≤ raw.toNat) := by
  have hraw := raw.isLt
  have hle : ((raw.extractLsb' 4 12).toNat : Rat) ≤ 4095 := by
    exact_mod_cast Nat.le_of_lt_succ (raw.extractLsb' 4 12).isLt
  refine ⟨?_, ?_, ?_, ?_⟩
  · rw [vdec_val]; positivity
  · rw [vdec_val]; linarith
  · rw [show (0 : Rat) = ((0 : Nat) : Rat) / 800 by norm_num, vdec_val_eq_iff]; omega
  · rw [show (511875 / 100000 : Rat) = ((4095 : Nat) : Rat) / 800 by norm_num, vdec_val_eq_iff]; omega

/-- Settles O44: the volts are the top 12 bits over 800, and all else is arithmetic of those. -/
theorem voltageIsLinear : Obligations.VoltageIsLinear := by
  refine ⟨fun raw => ⟨?_, vdec_val raw, voltField_eq_setWidth raw⟩, fun a b h => ?_,
    fun a b => (vdec_val_le_iff a b).symm, fun a b h => ?_, vdec_val_bounds, ?_⟩
  · rw [vdec_val]; ring
  · rw [vdec_eq, vdec_eq, h]
  · rw [vdec_val, vdec_val, h]; push_cast; ring
  · rw [show (26 / 100 : Rat) = ((208 : Nat) : Rat) / 800 by norm_num, vdec_val_eq_iff]; decide

/-! ## The state of charge (R126) -/

theorem socdec_val (raw : Word) : (socdec raw).val =
    ((raw.extractLsb' 8 8).toNat : Rat) + 3906 / 1000000 * ((raw.extractLsb' 0 8).toNat : Rat) := by
  rw [socdec, ExactQ.val, hiByte, loByte]
  push_cast
  ring

theorem byte_toNat_cast_le (b : Byte) : (b.toNat : Rat) ≤ 255 := by
  exact_mod_cast Nat.le_of_lt_succ b.isLt

/-- Settles O45: the decimal constant is `25/100000000` below `1/256`, and both bytes are at most 255. -/
theorem socIsLinearWithTheDecimalConstant : Obligations.SocIsLinearWithTheDecimalConstant := by
  refine ⟨socdec_val, fun raw => ⟨?_, ?_⟩, fun raw => ⟨?_, ?_⟩, ?_, ?_, ?_⟩
  · rw [socdec_val]; ring
  · linarith [byte_toNat_cast_le (raw.extractLsb' 0 8)]
  · rw [socdec_val]; positivity
  · rw [socdec_val]
    linarith [byte_toNat_cast_le (raw.extractLsb' 0 8), byte_toNat_cast_le (raw.extractLsb' 8 8)]
  · rw [show socdec 0xFFFF#16 = ⟨255996030, 1000000⟩ from rfl]; norm_num [ExactQ.val]
  · rw [show socdec 0x0000#16 = ⟨0, 1000000⟩ from rfl]; norm_num [ExactQ.val]
  · rw [show socdec 0x4D80#16 = ⟨77499968, 1000000⟩ from rfl]; norm_num [ExactQ.val]

end Sys2Proof.Machine

/-! PROOFS. The decoder and the encoder (30_encoding.md R76 to R86): each undoes the other. -/

namespace Sys2Proof.Machine

/-! ## Request words by their fields (R78) -/

theorem treqWord_inj {k k' l l' : BitVec 2} {a a' : Byte} {d d' : Word} :
    treqWord k l a d = treqWord k' l' a' d' ↔ k = k' ∧ l = l' ∧ a = a' ∧ d = d' := by
  constructor
  · intro h
    exact ⟨by simpa using congrArg treqKind h, by simpa using congrArg treqLen h,
      by simpa using congrArg treqAddr h, by simpa using congrArg treqWdata h⟩
  · rintro ⟨rfl, rfl, rfl, rfl⟩
    rfl

/-- Which word of R81, if any, a request's fields make. -/
theorem decodeTreq_treqWord (k l : BitVec 2) (a : Byte) (d : Word) :
    decodeTreq (treqWord k l a d) =
      if k = 0#2 ∧ l = 1#2 ∧ a = 0#8 ∧ d = 0x0C00#16 then .qSelConfig
      else if k = 1#2 ∧ l = 2#2 ∧ a = 0#8 ∧ d = 0#16 then .qRd2
      else if k = 3#2 ∧ l = 0#2 ∧ a = 0x0C#8 ∧ d = 0x971C#16 then .qWbConfig
      else if k = 2#2 ∧ l = 0#2 ∧ a = 0x02#8 ∧ d = 0#16 then .qRdVcell
      else if k = 2#2 ∧ l = 0#2 ∧ a = 0x04#8 ∧ d = 0#16 then .qRdSoc
      else if k = 3#2 ∧ l = 0#2 ∧ a = 0x0C#8 ∧ d = 0x979C#16 then .qSleep
      else if k = 0#2 then .tWrite l a d
      else if k = 1#2 then .tRead l a d
      else if k = 2#2 then .tRead16 l a d
      else .tWrite16 l a d := by
  have hSel : qSelConfigWord = treqWord 0#2 1#2 0#8 0x0C00#16 := by decide
  have hRd2 : qRd2Word = treqWord 1#2 2#2 0#8 0#16 := by decide
  have hWb : qWbConfigWord = treqWord 3#2 0#2 0x0C#8 0x971C#16 := by decide
  have hVcell : qRdVcellWord = treqWord 2#2 0#2 0x02#8 0#16 := by decide
  have hSoc : qRdSocWord = treqWord 2#2 0#2 0x04#8 0#16 := by decide
  have hSleep : qSleepWord = treqWord 3#2 0#2 0x0C#8 0x979C#16 := by decide
  simp only [decodeTreq, decodeGenericTreq, hSel, hRd2, hWb, hVcell, hSoc, hSleep, treqWord_inj,
    treqKind_treqWord, treqLen_treqWord, treqAddr_treqWord, treqWdata_treqWord]

/-! ## Decoding after encoding -/

theorem trspWord_fields (b : BitVec 1) (d : Word) :
    (trspWord b d).extractLsb' 16 1 = b ∧ (trspWord b d).extractLsb' 0 16 = d := by
  simp (disch := decide) only [trspWord, BitVec.extractLsb'_append_eq_of_le,
    BitVec.extractLsb'_append_eq_of_add_le]
  simp

/-- Settles O2: a request by its fields, which are not those of the six words; an answer by its two. -/
theorem decodeOfEncodeIsTheInstruction : Obligations.DecodeOfEncodeIsTheInstruction := by
  intro i hwf
  cases i with
  | setup | update | sleep | reservedCmd | done | illegalOp | illegalState => decide
  | qSelConfig | qRd2 | qWbConfig | qRdVcell | qRdSoc | qSleep => decide
  | csrDevaddr | csrState | csrStatus | csrSinks => decide
  | tWrite len addr wdata | tRead len addr wdata | tRead16 len addr wdata | tWrite16 len addr wdata =>
    simp only [WellFormed, writeFieldsOk, readFieldsOk, read16FieldsOk, write16FieldsOk, Bool.and_eq_true,
      Bool.not_eq_true', beq_iff_eq] at hwf
    simp only [Instr.format, encode, decode_treq_toNat, decodeTreq_treqWord]
    split_ifs <;> simp_all
  | tOk rdata =>
    obtain ⟨hok, hdata⟩ := trspWord_fields 1#1 rdata
    simp [Instr.format, encode, decodeTrsp, hok, hdata]
  | tErr rdata =>
    obtain ⟨hok, hdata⟩ := trspWord_fields 0#1 rdata
    simp [Instr.format, encode, decodeTrsp, hok, hdata]

/-! ## Encoding after decoding -/

theorem twoBits_cases (w : BitVec 2) : w = 0#2 ∨ w = 1#2 ∨ w = 2#2 ∨ w = 3#2 := by
  decide +revert

theorem encode_decodeCmd (w : BitVec 2) : (decodeCmd w).format = .cmd ∧ encode (decodeCmd w) = w.toNat := by
  decide +revert

theorem encode_of_decodeCrsp (w : BitVec 2) {i : Instr} (h : decodeCrsp w = .ok i) :
    i.format = .crsp ∧ encode i = w.toNat := by
  obtain rfl | rfl | rfl | rfl := twoBits_cases w
  all_goals cases h
  all_goals decide

theorem encode_decodeCsrSel (w : BitVec 2) :
    (decodeCsrSel w).format = .csrSel ∧ encode (decodeCsrSel w) = w.toNat := by
  decide +revert

theorem encode_decodeTrsp (w : BitVec 17) :
    (decodeTrsp w).format = .trsp ∧ encode (decodeTrsp w) = w.toNat := by
  have hw : trspWord (w.extractLsb' 16 1) (w.extractLsb' 0 16) = w := by
    rw [trspWord, BitVec.extractLsb'_append_extractLsb'_eq_extractLsb' (by rfl : 16 = 0 + 16),
      BitVec.extractLsb'_eq_self]
  unfold decodeTrsp
  split
  next h => exact ⟨rfl, by rw [encode, ← h, hw]⟩
  next h =>
    have h0 : w.extractLsb' 16 1 = 0#1 := by
      generalize w.extractLsb' 16 1 = b at h
      decide +revert
    exact ⟨rfl, by rw [encode, ← h0, hw]⟩

/-- The last kind is what the first three leave. -/
theorem kind_eq_three {k : BitVec 2} (h0 : k ≠ 0#2) (h1 : k ≠ 1#2) (h2 : k ≠ 2#2) : k = 3#2 :=
  (((twoBits_cases k).resolve_left h0).resolve_left h1).resolve_left h2

theorem encode_decodeGenericTreq (w : BitVec 28) :
    (decodeGenericTreq w).format = .treq ∧ encode (decodeGenericTreq w) = w.toNat := by
  have hw := treqWord_of_fields w
  unfold decodeGenericTreq
  split
  next h => exact ⟨rfl, by rw [encode, ← h, hw]⟩
  split
  next h => exact ⟨rfl, by rw [encode, ← h, hw]⟩
  split
  next h => exact ⟨rfl, by rw [encode, ← h, hw]⟩
  next h0 h1 h2 => exact ⟨rfl, by rw [encode, ← kind_eq_three h0 h1 h2, hw]⟩

theorem encode_decodeTreq (w : BitVec 28) :
    (decodeTreq w).format = .treq ∧ encode (decodeTreq w) = w.toNat := by
  unfold decodeTreq
  split
  · subst w; decide
  split
  · subst w; decide
  split
  · subst w; decide
  split
  · subst w; decide
  split
  · subst w; decide
  split
  · subst w; decide
  · exact encode_decodeGenericTreq w

/-- A number that decodes fits its port. -/
theorem lt_of_decode_ok {f : Format} {w : Nat} {i : Instr} (h : decode f w = .ok i) : w < 2 ^ f.width := by
  by_contra hlt
  simp [decode, hlt] at h

/-- Settles O3: a number that decodes is a word of its port, and each port's decoder is undone by `encode`. -/
theorem encodeOfDecodeIsTheWord : Obligations.EncodeOfDecodeIsTheWord := by
  intro f w i h
  have hlt := lt_of_decode_ok h
  rw [decode_of_lt f w hlt] at h
  have hw (n : Nat) (hn : w < 2 ^ n) : (BitVec.ofNat n w).toNat = w := by
    rw [BitVec.toNat_ofNat, Nat.mod_eq_of_lt hn]
  cases f with
  | cmd => cases h; simpa only [hw 2 hlt] using encode_decodeCmd (BitVec.ofNat 2 w)
  | crsp => simpa only [hw 2 hlt] using encode_of_decodeCrsp (BitVec.ofNat 2 w) h
  | treq => cases h; simpa only [hw 28 hlt] using encode_decodeTreq (BitVec.ofNat 28 w)
  | trsp => cases h; simpa only [hw 17 hlt] using encode_decodeTrsp (BitVec.ofNat 17 w)
  | csrSel => cases h; simpa only [hw 2 hlt] using encode_decodeCsrSel (BitVec.ofNat 2 w)

/-! ## Rejection (R82, R85, R86) -/

/-- Of the words that fit, only completion code 11 is refused. -/
theorem decodeFitting_eq_reject_iff {f : Format} {w : Nat} {r : Reject} (hlt : w < 2 ^ f.width) :
    decodeFitting f w = .reject r ↔ r = .reservedCompletionCode ∧ f = .crsp ∧ w = 3 := by
  cases f with
  | cmd | treq | trsp | csrSel => simp [decodeFitting]
  | crsp =>
    have hw : w < 4 := hlt
    interval_cases w <;> simp [decodeFitting, decodeCrsp, eq_comm]

/-- Settles O4: a word that is too wide is refused as such, and of those that fit only code 11. -/
theorem decodeRejectsExactlyTheReserved : Obligations.DecodeRejectsExactlyTheReserved := by
  intro f w r
  by_cases hlt : w < 2 ^ f.width
  · rw [decode_of_lt f w hlt, decodeFitting_eq_reject_iff hlt]
    simp [Nat.not_le.2 hlt]
  · have hcode : ¬ (f = .crsp ∧ w = 3) := by
      rintro ⟨rfl, rfl⟩
      exact hlt (by decide)
    simp [decode, hlt, Nat.le_of_not_lt hlt, hcode, eq_comm]

/-! ## Words written out -/

/-- Settles O1: nine words, decoded. -/
theorem decodeOfWrittenWords : Obligations.DecodeOfWrittenWords := by
  unfold Obligations.DecodeOfWrittenWords
  decide

/-- Settles O5: the six words, row by row. -/
theorem sixRequestsAreTheirWords : Obligations.SixRequestsAreTheirWords := by
  unfold Obligations.SixRequestsAreTheirWords
  decide

end Sys2Proof.Machine

/-! PROOFS. What a step does to the registers, the strobes and the record, said once, and the safety rules of
the whole machine that follow. -/

namespace Sys2Proof.Machine

variable {s t u v : State}

/-- Settles O13. -/
theorem stepKeepsInvariant : Obligations.StepKeepsInvariant := fun _ _ => inv_step

/-! ## The sequencer's own part of the state

A command's way on moves `SEQ`, the offered request, the completion port and `BUF`, and nothing else. -/

/-- `t` is `s` but for the sequencer, the offered request, the completion port and `BUF`. -/
def MovesOn (s t : State) : Prop := ∃ (q : SeqPos) (w : Option (BitVec 28)) (p : Option (BitVec 2))
    (b : Word) (n : Nat), t = { s with seq := q, tReq := w, rsp := p, buf := b, freeCount := n }

theorem MovesOn.refl (s : State) : MovesOn s s := ⟨_, _, _, _, _, rfl⟩

theorem MovesOn.trans (h : MovesOn s t) (h' : MovesOn t u) : MovesOn s u := by
  obtain ⟨q, w, p, b, n, rfl⟩ := h
  obtain ⟨q', w', p', b', n', rfl⟩ := h'
  exact ⟨q', w', p', b', n', rfl⟩

theorem movesOn_offer (w : BitVec 28) (q : SeqPos) (s : State) : MovesOn s (offer w { s with seq := q }) :=
  ⟨_, _, _, _, _, rfl⟩

theorem movesOn_setSeq (q : SeqPos) (s : State) : MovesOn s { s with seq := q } := ⟨_, _, _, _, _, rfl⟩

theorem movesOn_setBuf (w : Word) (s : State) : MovesOn s { s with buf := w } := ⟨_, _, _, _, _, rfl⟩

theorem movesOn_respond (c : Completion) (s : State) : MovesOn s (respond c s) := ⟨_, _, _, _, _, rfl⟩

theorem movesOn_endCommand (c : Completion) (s : State) : MovesOn s (endCommand c s) :=
  ⟨_, _, _, _, _, endCommand_frame s c⟩

theorem movesOn_updatePower (s : State) : MovesOn s (updatePower s) := by
  cases hp : s.cfg.sinkPs with
  | true => rw [updatePower_of_present s hp]; exact movesOn_setSeq _ s
  | false => rw [updatePower_of_absent s hp]; exact movesOn_endCommand _ s

theorem movesOn_updateSoc (s : State) : MovesOn s (updateSoc s) := by
  cases hs : s.cfg.sinkSoc with
  | true => rw [updateSoc_of_present s hs]; exact movesOn_offer _ _ s
  | false => rw [updateSoc_of_absent s hs]; exact movesOn_updatePower s

theorem movesOn_updateVolt (s : State) : MovesOn s (updateVolt s) := by
  cases hv : s.cfg.sinkV with
  | true => rw [updateVolt_of_present s hv]; exact movesOn_offer _ _ s
  | false => rw [updateVolt_of_absent s hv]; exact movesOn_updateSoc s

/-! ## What an answer writes -/

/-- The position whose request a fatal cause comes of (R159). -/
def FatalCause.position : FatalCause → SeqPos
  | .xportSelect => .setupSel
  | .xportRead => .setupRd
  | .unrecognised => .setupRd
  | .sleepResetFailed => .setupWb

/-- The position whose request a recoverable cause comes of (R159). -/
def WarnCause.position : WarnCause → SeqPos
  | .vcell => .updV
  | .soc => .updSoc
  | .sleepWrite => .slpWr

/-- What an answer, good or not, writes before the command goes on. -/
inductive AnswerWrites (s : State) : Bool → State → Prop where
  /-- A good answer to the select or the identity read, or any that is not awaited. -/
  | nothing (ok : Bool) : AnswerWrites s ok s
  /-- A fatal cause (R156). -/
  | fatal (ok : Bool) (c : FatalCause) : s.seq = c.position →
      AnswerWrites s ok (writeStatus c.kind c.msg { s with lc := .failed })
  /-- The end of a good SETUP (R106). -/
  | ready : s.seq = .setupWb → AnswerWrites s true { configurePin s with asleep := false, lc := .ready }
  /-- A good voltage read (R124). -/
  | volt (d : Word) : s.seq = .updV → AnswerWrites s true (clearWarning (publishVolt (voltWord d) s))
  /-- A good state-of-charge read (R127). -/
  | soc (d : Word) : s.seq = .updSoc → AnswerWrites s true (clearWarning (publishSoc (socWord d) s))
  /-- A recoverable cause (R157). -/
  | warn (c : WarnCause) : s.seq = c.position → AnswerWrites s false (writeStatus .warning c.msg s)
  /-- A good answer to SLEEP's write (R147). -/
  | asleep : s.seq = .slpWr → AnswerWrites s true { s with asleep := true }

/-- `ClearWarning` reads the status only, so that `BUF` may be set before or after it. -/
theorem clearWarning_setBuf (w : Word) (s : State) :
    clearWarning { s with buf := w } = { clearWarning s with buf := w } := by
  unfold clearWarning
  split <;> rfl

theorem setupCheck_writes (hq : s.seq = .setupRd) (b0 b1 : Byte) :
    ∃ v, AnswerWrites s true v ∧ MovesOn v (setupCheck b0 b1 s) := by
  cases hm : idMatch (beWord b0 b1) with
  | true =>
    rw [setupCheck_of_match s hm]
    exact ⟨s, .nothing _, _, _, _, _, _, rfl⟩
  | false =>
    rw [setupCheck_of_mismatch s hm]
    exact ⟨_, .fatal _ .unrecognised hq, (movesOn_setBuf (beWord b0 b1) _).trans (movesOn_endCommand .done _)⟩

theorem resumeOk_writes (d : Word) (s : State) : ∃ v, AnswerWrites s true v ∧ MovesOn v (resumeOk d s) := by
  unfold resumeOk
  split
  next => exact ⟨s, .nothing _, .refl s⟩
  next => exact ⟨s, .nothing _, movesOn_offer _ _ s⟩
  next hq => exact setupCheck_writes hq _ _
  next hq => exact ⟨_, .ready hq, movesOn_endCommand .done _⟩
  next hq =>
    refine ⟨_, .volt d hq, (movesOn_setBuf d _).trans ?_⟩
    rw [← clearWarning_setBuf]
    exact movesOn_updateSoc _
  next hq =>
    refine ⟨_, .soc d hq, (movesOn_setBuf d _).trans ?_⟩
    rw [← clearWarning_setBuf]
    exact movesOn_updatePower _
  next => exact ⟨s, .nothing _, .refl s⟩
  next hq => exact ⟨_, .asleep hq, movesOn_endCommand .done _⟩

theorem resumeErr_writes (s : State) : ∃ v, AnswerWrites s false v ∧ MovesOn v (resumeErr s) := by
  unfold resumeErr
  split
  next => exact ⟨s, .nothing _, .refl s⟩
  next hq => exact ⟨_, .fatal _ .xportSelect hq, movesOn_endCommand .done _⟩
  next hq => exact ⟨_, .fatal _ .xportRead hq, movesOn_endCommand .done _⟩
  next hq => exact ⟨_, .fatal _ .sleepResetFailed hq, movesOn_endCommand .done _⟩
  next hq => exact ⟨_, .warn .vcell hq, movesOn_updateSoc _⟩
  next hq => exact ⟨_, .warn .soc hq, movesOn_updatePower _⟩
  next => exact ⟨s, .nothing _, .refl s⟩
  next hq => exact ⟨_, .warn .sleepWrite hq, movesOn_endCommand .done _⟩

/-! ## What a command writes -/

/-- What an accepted command writes, before it goes on. -/
inductive CommandWrites (s : State) : State → Prop where
  /-- Opcode 00 (R85). -/
  | nothing : CommandWrites s s
  /-- Any other command, but for SETUP's start. -/
  | taken (op : CmdOp) : CommandWrites s (record (.cmd op) s)
  /-- SETUP starts (R100). -/
  | setup : s.lc = .uninit → CommandWrites s { record (.cmd .setup) s with lc := .validating }

theorem accepts_writes (h : Accepts s t) : ∃ v, CommandWrites s v ∧ MovesOn v t := by
  cases h with
  | reserved => exact ⟨s, .nothing, movesOn_respond _ s⟩
  | setup =>
    by_cases hlc : s.lc = .uninit
    · rw [acceptSetup_of_uninit _ (by exact hlc)]
      exact ⟨_, .setup hlc, movesOn_offer _ .setupSel _⟩
    · rw [acceptSetup_of_not_uninit _ (by exact hlc)]
      exact ⟨_, .taken .setup, movesOn_respond _ _⟩
  | update =>
    refine ⟨_, .taken .update, ?_⟩
    unfold acceptUpdate
    split
    next => exact movesOn_respond _ _
    next => exact movesOn_respond _ _
    next => exact movesOn_updateVolt _
    next => exact movesOn_respond _ _
  | sleep =>
    refine ⟨_, .taken .sleep, ?_⟩
    unfold acceptSleep
    split
    next => exact movesOn_respond _ _
    next => exact movesOn_respond _ _
    next => exact movesOn_offer _ _ _
    next => exact movesOn_respond _ _

/-! ## What a step writes -/

/-- What a step writes to the registers, the strobes, the outstanding request and the record, in a state whose
last strobes have ended. -/
inductive StepWrites (s : State) : State → Prop where
  /-- A level, a selection, a waiting command, an ignored answer, or nothing. -/
  | nothing : StepWrites s s
  /-- `rst`. -/
  | reset : s.resetAsserted → StepWrites s (applyReset s)
  /-- The completion pulse. -/
  | complete (c : Completion) : s.rsp = some c.code → StepWrites s (record (.done c) s)
  /-- The offered request is taken. -/
  | issue (r : Request) : s.tReq = some r.word → StepWrites s (issue r s)
  /-- The power-source reading. -/
  | sample : s.seq = .updPs → StepWrites s (publishLevel s.dinLevel (record (.din s.dinLevel) s))
  /-- A command is accepted, and taken from the environment. -/
  | command (l : List PortInput) (cs : List (BitVec 2)) (v : State) :
      CommandWrites (setHostCmds cs (setInputs l s)) v → StepWrites s v
  /-- An answer comes, taken from the environment. -/
  | answer (r : Request) (c : Answer) (ok : Bool) (l : List PortInput) (v : State) : s.outstanding = some r →
      AnswerWrites (answered c (setInputs l s)) ok v → StepWrites s v

theorem MovesOn.readingsKept (h : MovesOn s t) : ReadingsKept s t := by
  obtain ⟨q, w, p, b, n, rfl⟩ := h
  constructor <;> rfl

theorem takeAnswer_writes (rest : List PortInput) (carried : Request → Answer) {resume : State → State}
    {ok : Bool} (hres : ∀ u, ∃ v, AnswerWrites u ok v ∧ MovesOn v (resume u)) (s : State) :
    ∃ v, StepWrites s v ∧ ReadingsKept v (takeAnswer carried resume (setInputs rest s)) := by
  cases ho : s.outstanding with
  | none =>
    rw [takeAnswer_of_none _ _ _ (by exact ho)]
    exact ⟨s, .nothing, by constructor <;> rfl⟩
  | some r =>
    rw [takeAnswer_of_some _ _ _ (by exact ho)]
    obtain ⟨v, hw, hm⟩ := hres (answered (carried r) (setInputs rest s))
    exact ⟨v, .answer r _ ok rest v ho hw, hm.readingsKept⟩

/-- Every step writes what `StepWrites` says, and moves on. -/
theorem step_writes (h : step s = .next t) : ∃ v, StepWrites (clearStrobes s) v ∧ ReadingsKept v t := by
  cases step_cases h with
  | reset rest hi => exact ⟨_, .reset ⟨rest, hi⟩, by constructor <;> rfl⟩
  | complete c hr => exact ⟨_, .complete c hr, by constructor <;> rfl⟩
  | issue r _ ht _ => exact ⟨_, .issue r ht, (MovesOn.refl _).readingsKept⟩
  | sample _ hq => exact ⟨_, .sample hq, (movesOn_endCommand .done _).readingsKept⟩
  | held w rest _ _ _ _ ha =>
    obtain ⟨v, hw, hm⟩ := accepts_writes ha
    exact ⟨v, .command s.inputs rest v hw, hm.readingsKept⟩
  | command w rest _ _ _ _ ha =>
    obtain ⟨v, hw, hm⟩ := accepts_writes ha
    exact ⟨v, .command rest s.hostCmds v hw, hm.readingsKept⟩
  | ok d w rest => exact takeAnswer_writes rest _ (resumeOk_writes d) _
  | err w rest => exact takeAnswer_writes rest _ resumeErr_writes _
  | wait w rest | csr w rest | ready b rest | din b rest | idle =>
    exact ⟨_, .nothing, by constructor <;> rfl⟩

/-! ## Facts of the invariant about positions -/

theorem FatalCause.position_inSetup (c : FatalCause) : c.position.inSetup = true := by cases c <;> rfl

/-- A `FAILED` block is idle (R46, R171). -/
theorem inv_idle_of_failed (h : Inv s) (hlc : s.lc = .failed) : s.seq = .idle := by
  by_contra hq
  cases hset : s.seq.inSetup with
  | true => simp [h.mode.validating_iff.2 hset] at hlc
  | false => simp [h.port.busy_ready hq hset] at hlc

theorem inv_idle_clear (h : Inv s) (hq : s.seq = .idle) : s.tReq = none ∧ s.outstanding = none :=
  inv_no_request h (by rw [hq]; rfl)

theorem inv_validating_of_position (h : Inv s) {q : SeqPos} (hq : s.seq = q) (hset : q.inSetup = true) :
    s.lc = .validating :=
  h.mode.validating_iff.2 (by rw [hq, hset])

/-! ## The lifecycle (R21, R186) -/

/-- Settles O48: of all that a step writes, only SETUP's start, its end and `rst` write `LC`. -/
theorem lifecycleTransitions : Obligations.LifecycleTransitions := by
  intro s t h hst
  obtain ⟨v, hv, kept⟩ := step_writes hst
  rw [kept.lc, kept.trace]
  cases hv with
  | nothing | complete c hr | issue r ht | sample hq => exact .inl rfl
  | reset hr => exact .inr (.inr (.inr (.inr ⟨hr, rfl⟩)))
  | command l cs v hc =>
    cases hc with
    | nothing | taken op => exact .inl rfl
    | setup hlc => exact .inr (.inl ⟨hlc, rfl, rfl⟩)
  | answer r c ok l v ho ha =>
    cases ha with
    | nothing ok | warn c hq | asleep hq => exact .inl rfl
    | volt d hq | soc d hq => exact .inl (clearWarning_lc _)
    | fatal ok c hq =>
      exact .inr (.inr (.inr (.inl ⟨inv_validating_of_position h hq c.position_inSetup, rfl⟩)))
    | ready hq => exact .inr (.inr (.inl ⟨inv_validating_of_position h hq rfl, hq, rfl⟩))

/-- Settles O49: a `FAILED` block is idle, so that a step of it records a command or a completion at most. -/
theorem failedBlockIsSilentUntilReset : Obligations.FailedBlockIsSilentUntilReset := by
  intro s t h hlc hreset hst
  have hq := inv_idle_of_failed h hlc
  obtain ⟨htr, hout⟩ := inv_idle_clear h hq
  obtain ⟨v, hv, kept⟩ := step_writes hst
  have silent : v.lc = .failed ∧ v.stKind = s.stKind ∧ v.stMsg = s.stMsg ∧ v.voltOut = s.voltOut ∧
      v.socOut = s.socOut ∧ v.psrcOut = s.psrcOut ∧ v.asleep = s.asleep ∧ v.pinCfg = s.pinCfg ∧
      ∀ e ∈ v.trace.drop s.trace.length, (∃ op, e = .cmd op) ∨ (∃ c, e = .done c) := by
    cases hv with
    | nothing | complete c hr => simp [hlc]
    | reset hr => exact absurd hr hreset
    | issue r ht => simp [htr] at ht
    | sample hp => simp [hq] at hp
    | command l cs v hc =>
      cases hc with
      | nothing | taken op => simp [hlc]
      | setup hu => simp [hlc] at hu
    | answer r c ok l v ho ha => simp [hout] at ho
  obtain ⟨hvlc, hk, hm, hvo, hso, hpo, hsl, hpin, hev⟩ := silent
  have ht : Inv t := inv_step h hst
  have htlc : t.lc = .failed := kept.lc.trans hvlc
  have htq := inv_idle_of_failed ht htlc
  exact ⟨htlc, kept.stKind.trans hk, kept.stMsg.trans hm, kept.voltOut.trans hvo, kept.socOut.trans hso,
    kept.psrcOut.trans hpo, kept.asleep.trans hsl, kept.pinCfg.trans hpin, htq, (inv_idle_clear ht htq).1,
    (inv_idle_clear ht htq).2, by rwa [kept.trace]⟩

/-! ## Flags, holding registers and the status (R35) -/

/-- `ClearWarning` changes the status of a warning only, to `OK` (R163). -/
theorem clearWarning_status_changes (s : State)
    (h : ((clearWarning s).stKind, (clearWarning s).stMsg) ≠ (s.stKind, s.stMsg)) :
    s.stKind = .warning ∧ (clearWarning s).stKind = .ok := by
  by_cases hk : s.stKind = .warning
  · rw [clearWarning_of_warning s hk]
    exact ⟨hk, rfl⟩
  · rw [clearWarning_of_not_warning s hk] at h
    exact absurd rfl h

/-- A fatal cause records an error at the identity check and the write-back, a warning before (R159). -/
theorem FatalCause.kind_position (c : FatalCause) :
    (c.kind = .error ∧ (c.position = .setupRd ∨ c.position = .setupWb)) ∨
      (c.kind = .warning ∧ (c.position = .setupSel ∨ c.position = .setupRd)) := by
  cases c <;> simp [FatalCause.kind, FatalCause.position]

theorem WarnCause.position_cases (c : WarnCause) :
    c.position = .updV ∨ c.position = .updSoc ∨ c.position = .slpWr := by
  cases c <;> simp [WarnCause.position]

/-- Settles O50: each case of what a step writes is a row of R35's table. -/
theorem flagsChangeOnlyAsListed : Obligations.FlagsChangeOnlyAsListed := by
  intro s t h hreset hst
  obtain ⟨v, hv, kept⟩ := step_writes hst
  rw [kept.asleep, kept.pinCfg, kept.voltOut, kept.socOut, kept.psrcOut, kept.stKind, kept.stMsg]
  cases hv with
  | nothing | complete c hr | issue r ht => simp
  | reset hr => exact absurd hr hreset
  | sample hq => simpa using fun _ => hq
  | command l cs v hc => cases hc <;> simp
  | answer r c ok l v ho ha =>
    replace ho : s.outstanding ≠ none := by simp_all
    cases ha with
    | nothing ok => simp [answered]
    | fatal ok c hq =>
      replace hq : s.seq = c.position := hq
      have hk := c.kind_position
      rw [← hq] at hk
      simp only [writeStatus_asleep, writeStatus_pinCfg, writeStatus_voltOut, writeStatus_socOut,
        writeStatus_psrcOut, writeStatus_stKind, writeStatus_stMsg]
      refine ⟨by simp [answered], by simp [answered], by simp [answered], by simp [answered],
        by simp [answered], fun _ => ⟨ho, hk.imp_right fun hw => .inl ⟨hw.1, ?_⟩⟩⟩
      exact hw.2.imp_right .inl
    | ready hq =>
      replace hq : s.seq = .setupWb := hq
      have hlc := inv_validating_of_position h hq rfl
      have hsl : s.asleep = false := by simpa using mt h.mode.asleep_ready (by simp [hlc])
      simp [answered, hq, ho, hsl]
    | volt d hq =>
      replace hq : s.seq = .updV := hq
      refine ⟨by simp [answered], by simp [answered], fun _ => ⟨hq, ho, d, by simp⟩, by simp [answered],
        by simp [answered], fun hst => ⟨ho, .inr (.inr ?_)⟩⟩
      obtain ⟨hw, hok⟩ := clearWarning_status_changes _ hst
      exact ⟨hok, hw, .inl hq⟩
    | soc d hq =>
      replace hq : s.seq = .updSoc := hq
      refine ⟨by simp [answered], by simp [answered], by simp [answered], fun _ => ⟨hq, ho, d, by simp⟩,
        by simp [answered], fun hst => ⟨ho, .inr (.inr ?_)⟩⟩
      obtain ⟨hw, hok⟩ := clearWarning_status_changes _ hst
      exact ⟨hok, hw, .inr hq⟩
    | warn c hq =>
      replace hq : s.seq = c.position := hq
      have hp := c.position_cases
      rw [← hq] at hp
      refine ⟨by simp [answered], by simp [answered], by simp [answered], by simp [answered],
        by simp [answered], fun _ => ⟨ho, .inr (.inl ⟨rfl, .inr (.inr hp)⟩)⟩⟩
    | asleep hq =>
      replace hq : s.seq = .slpWr := hq
      simp [answered, hq, ho]

/-! ## Requests (R38, R73, R81) -/

/-- `ClearWarning` records its status, if it writes one. -/
theorem clearWarning_trace (s : State) : (clearWarning s).trace =
    s.trace ++ if s.stKind = .warning then [.status .ok .none] else [] := by
  by_cases hk : s.stKind = .warning
  · simp [clearWarning_of_warning s hk, hk]
  · simp [clearWarning_of_not_warning s hk, hk]

/-- Only the transfer that takes an offered request records one. -/
theorem step_issued (hst : step s = .next t) {dev : BitVec 7} {r : Request}
    (he : .tReq dev r ∈ t.trace.drop s.trace.length) :
    dev = s.cfg.devAddr ∧ s.tReq = some r.word ∧ t.trace = s.trace ++ [.tReq dev r] ∧
      t.outstanding = some r := by
  obtain ⟨v, hv, kept⟩ := step_writes hst
  rw [kept.trace] at he ⊢
  rw [kept.outstanding]
  cases hv with
  | nothing | complete c hr | reset hr | sample hq => simp [publishLevel] at he
  | issue r' ht =>
    obtain ⟨rfl, rfl⟩ : dev = s.cfg.devAddr ∧ r = r' := by simpa using he
    exact ⟨rfl, ht, rfl, rfl⟩
  | command l cs v hc => cases hc <;> simp at he
  | answer r' c ok l v ho ha =>
    cases ha with
    | nothing ok | asleep hq => simp [answered] at he
    | fatal ok c hq | warn c hq => simp [answered] at he
    | ready hq => simp [answered, configurePin] at he
    | volt d hq | soc d hq =>
      rw [clearWarning_trace] at he
      split at he <;> simp [answered] at he

/-- Settles O16: the invariant says what stands on the port, and `step_issued` what a request's step does. -/
theorem oneRequestAtATime : Obligations.OneRequestAtATime := by
  refine ⟨fun s hs => ⟨fun ⟨ht, ho⟩ => ?_, inv_idle_clear hs.inv⟩, fun s t hs hst dev r he => ?_⟩
  · obtain ⟨w, hw⟩ := Option.ne_none_iff_exists'.1 ht
    exact ho (hs.inv.port.offered w hw).1
  · obtain ⟨-, htr, htrace, hout⟩ := step_issued hst he
    exact ⟨htrace, (inv_offered_request hs.inv htr).1, hout⟩

/-- The six primitives are those of the positions' requests (R61, R81). -/
theorem primitive_of_request {q : SeqPos} {r : Request} (h : q.request = some r) :
    r.primitive ∈ [some (Primitive.busWrite [0x0C#8]), some (.busRead 2), some (.memWrite 0x0C#8 0x971C#16),
      some (.memRead 0x02#8), some (.memRead 0x04#8), some (.memWrite 0x0C#8 0x979C#16)] := by
  cases q <;> cases h <;> decide

/-- Settles O25: a request's step takes the offered word, which by the invariant is its position's. -/
theorem everyRequestGoesToTheDevice : Obligations.EveryRequestGoesToTheDevice := by
  intro s t hs hst dev r he
  obtain ⟨hdev, htr, -, -⟩ := step_issued hst he
  have hq := (inv_offered_request hs.inv htr).2
  exact ⟨hdev, hq, primitive_of_request hq⟩

/-- Settles O51. -/
theorem parametersNeverChange : Obligations.ParametersNeverChange := fun _ _ => step_cfg

/-! ## Sinks (R59, R132) -/

theorem updV_of_request {q : SeqPos} (h : q.request = some reqRdVcell) : q = .updV := by
  cases q <;> revert h <;> decide

theorem updSoc_of_request {q : SeqPos} (h : q.request = some reqRdSoc) : q = .updSoc := by
  cases q <;> revert h <;> decide

/-- Settles O52: a request, a sample or a publish of a quantity is of its own position, whose sink is present. -/
theorem absentSinkIsNeverServed : Obligations.AbsentSinkIsNeverServed := by
  intro s t h hreset hst
  obtain ⟨v, hv, kept⟩ := step_writes hst
  rw [kept.trace, kept.voltOut, kept.socOut, kept.psrcOut]
  cases hv with
  | nothing | complete c hr => simp
  | reset hr => exact absurd hr hreset
  | issue r ht =>
    have hq : s.seq.request = some r := (inv_offered_request h ht).2
    have vcell : s.cfg.sinkV = false → r ≠ reqRdVcell := by
      rintro hs rfl
      simp [h.port.voltSink (updV_of_request hq)] at hs
    have soc : s.cfg.sinkSoc = false → r ≠ reqRdSoc := by
      rintro hs rfl
      simp [h.port.socSink (updSoc_of_request hq)] at hs
    simp +contextual [vcell, soc]
  | sample hq => simp [publishLevel, h.port.psSink hq]
  | command l cs v hc => cases hc <;> simp
  | answer r' c ok l v ho ha =>
    cases ha with
    | nothing ok | asleep hq => simp [answered]
    | fatal ok c hq | warn c hq => simp [answered]
    | ready hq => simp [answered, configurePin]
    | volt d hq =>
      rw [clearWarning_trace]
      split <;> simp [answered, h.port.voltSink hq]
    | soc d hq =>
      rw [clearWarning_trace]
      split <;> simp [answered, h.port.socSink hq]

/-- Settles O53: a step publishes where it sets a strobe, and the register then holds what it published. -/
theorem strobesAreThePublishes : Obligations.StrobesAreThePublishes := by
  intro s t hst
  obtain ⟨v, hv, kept⟩ := step_writes hst
  simp only [kept.trace, kept.vStrobe, kept.socStrobe, kept.psStrobe, State.vPubData, State.socPubData,
    State.psPubData, kept.voltOut, kept.socOut, kept.psrcOut]
  cases hv with
  | nothing | complete c hr | reset hr | issue r ht => simp
  | sample hq => simp [publishLevel, eq_comm]
  | command l cs v hc => cases hc <;> simp
  | answer r' c ok l v ho ha =>
    cases ha with
    | nothing ok | asleep hq => simp [answered]
    | fatal ok c hq | warn c hq => simp [answered]
    | ready hq => simp [answered, configurePin]
    | volt d hq | soc d hq =>
      rw [clearWarning_trace]
      split <;> simp [answered, eq_comm]

end Sys2Proof.Machine

/-! PROOFS. Which transfer a step makes (30_encoding.md R83; 20_memory.md R51, R74; 70_reset_and_hazards.md
R185). -/

namespace Sys2Proof.Machine

variable {s t : State}

/-! ## The step's choice of port -/

theorem runWord_of_decode {f : Format} {w : Nat} {i : Instr} (h : decode f w = .ok i) (s : State) :
    runWord f w s = exec i s := by
  simp [runWord, h]

theorem not_resetAsserted_of_inputs {p : PortInput} {rest : List PortInput}
    (hin : s.inputs = p :: rest) (hp : p ≠ .rst) : ¬ s.resetAsserted := by
  rintro ⟨rest', h⟩
  exact hp (List.cons.inj (hin.symm.trans h)).1

theorem step_of_resetAsserted {rest : List PortInput} (hin : s.inputs = .rst :: rest) :
    step s = .next (applyReset (setInputs rest (clearStrobes s))) := by
  simp [step, nextAction, hin, runAction]

/-- The completion pulse comes first. -/
theorem step_of_completing (hreset : ¬ s.resetAsserted) {w : BitVec 2} (hrsp : s.rsp = some w) :
    step s = runWord .crsp w.toNat (clearStrobes s) := by
  rw [step, nextAction_of_no_reset hreset]
  simp [nextTransfer, hrsp, runAction]

/-- Then an offered request, if the transport takes it. -/
theorem step_of_requesting (hreset : ¬ s.resetAsserted) (hrsp : s.rsp = none) {w : BitVec 28}
    (ht : s.tReq = some w) (hready : s.tReady = true) :
    step s = runWord .treq w.toNat (clearStrobes s) := by
  rw [step, nextAction_of_no_reset hreset]
  simp [nextTransfer, nextRequest, hrsp, ht, hready, runAction]

/-- With neither, the sequencer's sample, a held command, or the environment. -/
theorem step_of_no_request (hreset : ¬ s.resetAsserted) (hrsp : s.rsp = none)
    (ht : s.tReq = none ∨ s.tReady = false) : step s = runAction (nextSample (clearStrobes s)) := by
  rw [step, nextAction_of_no_reset hreset]
  unfold nextTransfer nextRequest
  rcases ht with ht | ht
  · simp [hrsp, ht]
  · cases htr : s.tReq <;> simp [hrsp, ht, htr]

/-- A held command is taken by an idle block. -/
theorem step_of_held (hreset : ¬ s.resetAsserted) (hrsp : s.rsp = none)
    (ht : s.tReq = none ∨ s.tReady = false) (hq : s.seq = .idle) {w : BitVec 2} {rest : List (BitVec 2)}
    (hw : s.hostCmds = w :: rest) : step s = runWord .cmd w.toNat (setHostCmds rest (clearStrobes s)) := by
  rw [step_of_no_request hreset hrsp ht]
  simp [nextSample, nextCommand, hq, hw, runAction]

/-- Settles O6: the port's word is the one that decodes to the instruction. -/
theorem stepRunsTheDecodedWord : Obligations.StepRunsTheDecodedWord := by
  refine fun s i => ⟨fun w hreset hrsp hd => ?_, fun w hreset hrsp ht hready hd => ?_,
    fun w rest hreset hrsp ht hq hw hd => ?_, fun w rest hrest hin hd => ?_, fun w rest hrest hin hd => ?_,
    fun w rest hrest hin hd => ?_⟩
  · rw [step_of_completing hreset hrsp, runWord_of_decode hd]
  · rw [step_of_requesting hreset hrsp ht hready, runWord_of_decode hd]
  · rw [step_of_held hreset hrsp ht hq hw, runWord_of_decode hd]
  all_goals
    rw [step_of_atRest hrest (not_resetAsserted_of_inputs hin nofun), ← runWord_of_decode hd]
    simp [nextInput, hin, runAction]

/-- Settles O7: at rest the environment's next input is the step, and with none left nothing is. -/
theorem stepWithoutAWord : Obligations.StepWithoutAWord := by
  refine fun s hrest => ⟨fun b rest hin => ?_, fun b rest hin => ?_, fun hin ht ho => ?_⟩
  · rw [step_of_atRest hrest (not_resetAsserted_of_inputs hin nofun)]
    simp [nextInput, hin, runAction]
  · rw [step_of_atRest hrest (not_resetAsserted_of_inputs hin nofun)]
    simp [nextInput, hin, runAction]
  · rw [step_of_atRest hrest (by simp [State.resetAsserted, hin])]
    simp [nextInput, hin, ht, ho, runAction]

/-! ## Where a step stops (R74) -/

theorem ne_of_request {q : SeqPos} {r : Request} (h : q.request = some r) : q ≠ .idle ∧ q ≠ .updPs := by
  constructor <;> rintro rfl <;> cases h

/-- A block that waits for an answer is at rest. -/
theorem inv_atRest_of_outstanding (h : Inv s) {r : Request} (ho : s.outstanding = some r) : s.AtRest := by
  obtain ⟨hq, ht, hrsp⟩ := inv_outstanding h ho
  exact ⟨hrsp, .inl ht, .inr (ne_of_request hq).1, (ne_of_request hq).2⟩

/-- Settles O8: a block that waits for an answer is at rest, so that its step is the environment's. -/
theorem unansweredRequestHasNoStep : Obligations.UnansweredRequestHasNoStep := by
  intro s h ho hin
  obtain ⟨r, hr⟩ := Option.ne_none_iff_exists'.1 ho
  rw [step_of_atRest (inv_atRest_of_outstanding h hr) (by simp [State.resetAsserted, hin])]
  simp [nextInput, hin, (inv_outstanding h hr).2.1, hr, runAction]

/-- Every instruction has a next state. -/
theorem exec_next (i : Instr) (s : State) : ∃ t, exec i s = .next t := by
  cases i <;> exact ⟨_, rfl⟩

/-- A step answers a next state, or the block waits for a transport that the environment leaves silent. -/
def StepsOrWaits (s : State) : Host.Outcome State Fault Refusal → Prop
  | .next _ => True
  | .fault .answerMissing => s.inputs = [] ∧ s.outstanding ≠ none
  | .fault .requestNotTaken => s.inputs = [] ∧ s.tReq ≠ none
  | .refused _ => False

theorem stepsOrWaits_runWord {f : Format} {w : Nat} {i : Instr} (h : decode f w = .ok i) (s u : State) :
    StepsOrWaits s (runWord f w u) := by
  rw [runWord_of_decode h]
  obtain ⟨t, ht⟩ := exec_next i u
  rw [ht]
  trivial

theorem stepsOrWaits_nextInput (s : State) : StepsOrWaits s (runAction (nextInput s)) := by
  unfold nextInput
  split
  next => exact stepsOrWaits_runWord (decode_cmd_toNat _) _ _
  next => exact stepsOrWaits_runWord (decode_csrSel_toNat _) _ _
  next => exact stepsOrWaits_runWord (decode_trsp_toNat _) _ _
  next => trivial
  next => trivial
  next => trivial
  next hin =>
    split
    next ht => exact ⟨hin, by simpa [Option.isSome_iff_ne_none] using ht⟩
    split
    next ho => exact ⟨hin, by simpa [Option.isSome_iff_ne_none] using ho⟩
    · trivial

theorem stepsOrWaits_nextSample (s : State) : StepsOrWaits s (runAction (nextSample s)) := by
  unfold nextSample
  split
  · trivial
  unfold nextCommand
  split
  · split
    · exact stepsOrWaits_runWord (decode_cmd_toNat _) _ _
    · exact stepsOrWaits_nextInput s
  · exact stepsOrWaits_nextInput s

/-- A completion word that is signalled is a code (R82). -/
theorem decodeCrsp_of_ne_three {w : BitVec 2} (h : w ≠ 3#2) : ∃ i, decodeCrsp w = .ok i := by
  rcases decodeCrsp_cases w with ⟨hw, -⟩ | ⟨-, -, i, hi, -⟩
  · exact absurd hw h
  · exact ⟨i, hi⟩

/-- By the invariant a signalled word is a code, and a block whose request is not taken has a transport that is
not ready. -/
theorem inv_stepsOrWaits (h : Inv s) : StepsOrWaits s (step s) ∧
    (step s = .fault .requestNotTaken → s.tReq ≠ none → s.tReady = false) := by
  by_cases hreset : s.resetAsserted
  · obtain ⟨rest, hin⟩ := hreset
    rw [step_of_resetAsserted hin]
    exact ⟨trivial, nofun⟩
  cases hrsp : s.rsp with
  | some w =>
    obtain ⟨i, hi⟩ := decodeCrsp_of_ne_three (h.port.completing w hrsp).2
    rw [step_of_completing hreset hrsp]
    rw [← decode_crsp_toNat] at hi
    refine ⟨stepsOrWaits_runWord hi _ _, fun hf => ?_⟩
    rw [runWord_of_decode hi] at hf
    obtain ⟨t, ht⟩ := exec_next i (clearStrobes s)
    simp [ht] at hf
  | none =>
    by_cases htaken : s.tReq ≠ none ∧ s.tReady = true
    · obtain ⟨ht, hready⟩ := htaken
      obtain ⟨w, hw⟩ := Option.ne_none_iff_exists'.1 ht
      obtain ⟨-, r, -, rfl⟩ := h.port.offered w hw
      rw [step_of_offered hreset hrsp hw hready]
      exact ⟨trivial, nofun⟩
    · have hno : s.tReq ≠ none → s.tReady = false := by simpa using htaken
      rw [step_of_no_request hreset hrsp (by tauto)]
      exact ⟨stepsOrWaits_nextSample (clearStrobes s), fun _ => hno⟩

/-- Settles O9: the block that waits is busy, since an idle one has no request. -/
theorem stepStopsOnlyForTheTransport : Obligations.StepStopsOnlyForTheTransport := by
  intro s h
  obtain ⟨hstep, hready⟩ := inv_stepsOrWaits h
  refine ⟨fun r hr => by simp [hr, StepsOrWaits] at hstep, fun r hr => ?_⟩
  rw [hr] at hstep
  cases r with
  | answerMissing =>
    obtain ⟨hin, ho⟩ := hstep
    exact ⟨hin, fun hq => ho (inv_idle_clear h hq).2, .inl ⟨rfl, ho⟩⟩
  | requestNotTaken =>
    obtain ⟨hin, ht⟩ := hstep
    exact ⟨hin, fun hq => ht (inv_idle_clear h hq).1, .inr ⟨rfl, ht, hready hr ht⟩⟩

/-! ## Reset (R47, R185, R188) -/

/-- Settles O10. -/
theorem resetRegisterValues : Obligations.ResetRegisterValues :=
  ⟨registersReset_applyReset State.reset, rfl, rfl, rfl, rfl, rfl, rfl, rfl, rfl⟩

/-- Settles O11: an asserted `rst` is the step, whatever else is pending. -/
theorem resetLineResetsAtAnyInstant : Obligations.ResetLineResetsAtAnyInstant := fun _ _ hin =>
  ⟨_, step_of_resetAsserted hin, registersReset_applyReset _, rfl, rfl, rfl, rfl, rfl, rfl, rfl, rfl, rfl,
    rfl, rfl, rfl, rfl, rfl⟩

/-- Settles O12: the state after reset is reset's own. -/
theorem resetSatisfiesInvariant : Obligations.ResetSatisfiesInvariant := inv_applyReset State.reset

end Sys2Proof.Machine

/-! PROOFS. What each word does where it is taken: commands (60_exceptions.md R158), requests, completions,
introspection reads, and answers at each position. -/

namespace Sys2Proof.Machine

variable {s t : State}

/-! ## Commands, by the lifecycle (R158's table) -/

theorem exec_setup_of_idle (hq : s.seq = .idle) :
    exec .setup s = .next (acceptSetup (record (.cmd .setup) s)) :=
  congrArg Host.Outcome.next (atCommandPort_of_idle _ _ _ hq)

theorem exec_sleep_of_idle (hq : s.seq = .idle) :
    exec .sleep s = .next (acceptSleep (record (.cmd .sleep) s)) :=
  congrArg Host.Outcome.next (atCommandPort_of_idle _ _ _ hq)

theorem exec_reservedCmd_of_idle (hq : s.seq = .idle) :
    exec .reservedCmd s = .next (raise (.protocol .illegalOp) s) :=
  congrArg Host.Outcome.next (atCommandPort_of_idle _ _ _ hq)

theorem exec_setup_of_uninit (hq : s.seq = .idle) (hlc : s.lc = .uninit) :
    exec .setup s = .next (setupStart (record (.cmd .setup) s)) :=
  (exec_setup_of_idle hq).trans (congrArg Host.Outcome.next (acceptSetup_of_uninit _ hlc))

theorem exec_setup_of_not_uninit (hq : s.seq = .idle) (hlc : s.lc ≠ .uninit) :
    exec .setup s = .next (raise (.protocol .illegalState) (record (.cmd .setup) s)) :=
  (exec_setup_of_idle hq).trans (congrArg Host.Outcome.next (acceptSetup_of_not_uninit _ hlc))

theorem exec_update_of_ready (hq : s.seq = .idle) (hlc : s.lc = .ready) :
    exec .update s = .next (updateVolt (record (.cmd .update) s)) :=
  (exec_update_of_idle hq).trans (congrArg Host.Outcome.next (acceptUpdate_of_ready _ hlc))

theorem exec_update_of_failed (hq : s.seq = .idle) (hlc : s.lc = .failed) :
    exec .update s = .next (respond .done (record (.cmd .update) s)) :=
  (exec_update_of_idle hq).trans (congrArg Host.Outcome.next (acceptUpdate_of_failed _ hlc))

theorem exec_sleep_of_ready (hq : s.seq = .idle) (hlc : s.lc = .ready) :
    exec .sleep s = .next (sleepStart (record (.cmd .sleep) s)) :=
  (exec_sleep_of_idle hq).trans (congrArg Host.Outcome.next (acceptSleep_of_ready _ hlc))

theorem exec_sleep_of_failed (hq : s.seq = .idle) (hlc : s.lc = .failed) :
    exec .sleep s = .next (respond .done (record (.cmd .sleep) s)) :=
  (exec_sleep_of_idle hq).trans (congrArg Host.Outcome.next (acceptSleep_of_failed _ hlc))

/-- Before SETUP has ended, UPDATE is illegal (R121; log entry 8 for `VALIDATING`). -/
theorem exec_update_of_illegal (hq : s.seq = .idle) (hlc : s.lc = .uninit ∨ s.lc = .validating) :
    exec .update s = .next (raise (.protocol .illegalState) (record (.cmd .update) s)) := by
  rw [exec_update_of_idle hq, acceptUpdate]
  rcases hlc with hlc | hlc <;> simp [hlc]

/-- Before SETUP has ended, SLEEP is illegal (R146; log entry 8 for `VALIDATING`). -/
theorem exec_sleep_of_illegal (hq : s.seq = .idle) (hlc : s.lc = .uninit ∨ s.lc = .validating) :
    exec .sleep s = .next (raise (.protocol .illegalState) (record (.cmd .sleep) s)) := by
  rw [exec_sleep_of_idle hq, acceptSleep]
  rcases hlc with hlc | hlc <;> simp [hlc]

/-- Settles O17: at an idle port the lifecycle decides; a `VALIDATING` block is in SETUP, so that its port is not
ready. -/
theorem commandLegality : Obligations.CommandLegality := by
  refine fun s => ⟨fun hq => ⟨exec_reservedCmd_of_idle hq, fun hlc => ?_, fun hlc => ?_, fun hlc => ?_⟩,
    fun h hlc => ?_⟩
  · exact ⟨exec_setup_of_uninit hq hlc, exec_update_of_illegal hq (.inl hlc),
      exec_sleep_of_illegal hq (.inl hlc)⟩
  · exact ⟨exec_setup_of_not_uninit hq (by simp [hlc]), exec_update_of_ready hq hlc,
      exec_sleep_of_ready hq hlc⟩
  · exact ⟨exec_setup_of_not_uninit hq (by simp [hlc]), exec_update_of_failed hq hlc,
      exec_sleep_of_failed hq hlc⟩
  · have hset := h.mode.validating_iff.1 hlc
    have hq : s.seq ≠ .idle := by
      intro hq
      simp [hq, SeqPos.inSetup] at hset
    simpa [State.cmdReady] using hq

/-- Settles O18: a busy port adds the word to those the host holds. -/
theorem busyPortTakesNoCommand : Obligations.BusyPortTakesNoCommand := fun s hq =>
  have waits (w : BitVec 2) (g : State → State) :
      Host.Outcome.next (φ := Fault) (ρ := Refusal) (atCommandPort w g s) =
        .next { s with hostCmds := s.hostCmds ++ [w] } :=
    congrArg Host.Outcome.next (atCommandPort_of_busy s w g hq)
  ⟨by simpa [State.cmdReady] using hq, waits _ _, waits _ _, waits _ _, waits _ _⟩

/-- Settles O19. -/
theorem idleValidatingAnswersIllegalState : Obligations.IdleValidatingAnswersIllegalState := fun _ hq hlc =>
  ⟨exec_setup_of_not_uninit hq (by simp [hlc]), exec_update_of_illegal hq (.inr hlc),
    exec_sleep_of_illegal hq (.inr hlc)⟩

/-- Settles O20. -/
theorem setupStartsValidation : Obligations.SetupStartsValidation := fun _ => exec_setup_of_uninit

/-- Settles O21: the absent sinks are skipped, one by one. -/
theorem updateStartsTheFirstPresentReading : Obligations.UpdateStartsTheFirstPresentReading := by
  intro s hq hlc
  rw [exec_update_of_ready hq hlc]
  refine ⟨fun hv => ?_, fun hv hs => ?_, fun hv hs hp => ?_, fun hv hs hp => ?_⟩
  · rw [updateVolt_of_present _ (by exact hv)]
    rfl
  · rw [updateVolt_of_absent _ (by exact hv), updateSoc_of_present _ (by exact hs)]
    rfl
  · rw [updateVolt_of_absent _ (by exact hv), updateSoc_of_absent _ (by exact hs),
      updatePower_of_present _ (by exact hp)]
    rfl
  · rw [updateVolt_of_absent _ (by exact hv), updateSoc_of_absent _ (by exact hs),
      updatePower_of_absent _ (by exact hp), endCommand_of_idle _ _ (by exact hq)]
    rfl

/-- Settles O22. -/
theorem sleepStartsOneWrite : Obligations.SleepStartsOneWrite := fun _ => exec_sleep_of_ready

/-! ## Requests, completions, introspection reads -/

/-- Settles O23: every request word issues the request of its fields. -/
theorem requestIsIssued : Obligations.RequestIsIssued := by
  refine fun s => ⟨fun len addr wdata => ⟨⟨_, rfl, rfl⟩, ⟨_, rfl, rfl⟩, ⟨_, rfl, rfl⟩, ⟨_, rfl, rfl⟩⟩,
    fun i r hir => ?_⟩
  simp only [List.mem_cons, List.not_mem_nil, or_false, Prod.mk.injEq] at hir
  rcases hir with ⟨rfl, rfl⟩ | ⟨rfl, rfl⟩ | ⟨rfl, rfl⟩ | ⟨rfl, rfl⟩ | ⟨rfl, rfl⟩ | ⟨rfl, rfl⟩ <;> rfl

/-- Settles O26. -/
theorem completionReachesTheHost : Obligations.CompletionReachesTheHost := fun _ => ⟨rfl, rfl, rfl⟩

/-- Settles O38. -/
theorem csrReadHasNoSideEffect : Obligations.CsrReadHasNoSideEffect := fun _ => ⟨rfl, rfl, rfl, rfl⟩

/-! ## Answers: what the sequencer does at each position -/

/-- Settles O27. -/
theorem unsolicitedAnswerIsIgnored : Obligations.UnsolicitedAnswerIsIgnored := fun s _ ho =>
  ⟨congrArg Host.Outcome.next (takeAnswer_of_none s _ _ ho),
    congrArg Host.Outcome.next (takeAnswer_of_none s _ _ ho)⟩

theorem resumeOk_of_no_request (h : s.seq = .idle ∨ s.seq = .updPs) (d : Word) : resumeOk d s = s := by
  rcases h with h | h <;> simp [resumeOk, h]

theorem resumeErr_of_no_request (h : s.seq = .idle ∨ s.seq = .updPs) : resumeErr s = s := by
  rcases h with h | h <;> simp [resumeErr, h]

/-- Settles O28. -/
theorem answerWhereNoneIsAwaited : Obligations.AnswerWhereNoneIsAwaited := by
  intro s r d ho hq
  rw [exec_tOk_of_outstanding ho, exec_tErr_of_outstanding ho, resumeOk_of_no_request (by exact hq),
    resumeErr_of_no_request (by exact hq)]
  exact ⟨rfl, rfl⟩

/-- `raise Fatal` in a busy block. -/
theorem raise_fatal_of_busy (hq : s.seq ≠ .idle) (c : FatalCause) : raise (.fatal c) s = { s with
    lc := .failed, stKind := c.kind, stMsg := c.msg, buf := Config.freeBuf s.freeCount
    freeCount := s.freeCount + 1, seq := .idle, rsp := some 0b00#2
    trace := s.trace ++ [.status c.kind c.msg] } := by
  rw [raise_fatal, endCommand_of_busy _ _ (by exact hq)]
  rfl

theorem resumeOk_of_setupSel (hq : s.seq = .setupSel) (d : Word) : resumeOk d s = setupRead s := by
  simp [resumeOk, hq]

theorem resumeOk_of_setupRd (hq : s.seq = .setupRd) (d : Word) :
    resumeOk d s = setupCheck (hiByte d) (loByte d) s := by
  simp [resumeOk, hq]

theorem resumeOk_of_setupWb (hq : s.seq = .setupWb) (d : Word) : resumeOk d s = setupFinish s := by
  simp [resumeOk, hq]

theorem resumeOk_of_slpWr (hq : s.seq = .slpWr) (d : Word) : resumeOk d s = sleepSuccess s := by
  simp [resumeOk, hq]

theorem resumeErr_of_setupSel (hq : s.seq = .setupSel) : resumeErr s = raise (.fatal .xportSelect) s := by
  simp [resumeErr, hq]

theorem resumeErr_of_setupRd (hq : s.seq = .setupRd) : resumeErr s = raise (.fatal .xportRead) s := by
  simp [resumeErr, hq]

theorem resumeErr_of_setupWb (hq : s.seq = .setupWb) :
    resumeErr s = raise (.fatal .sleepResetFailed) s := by
  simp [resumeErr, hq]

theorem resumeErr_of_slpWr (hq : s.seq = .slpWr) : resumeErr s = sleepFailure s := by
  simp [resumeErr, hq]

/-- The identity check reads the answer's data as they are (R63). -/
theorem resumeOk_of_match (hq : s.seq = .setupRd) {d : Word} (hm : idMatch d = true) :
    resumeOk d s = offer qWbConfigWord { s with buf := d, seq := .setupWb } := by
  rw [resumeOk_of_setupRd hq, setupCheck_of_match _ (by rwa [beWord_bytes]), beWord_bytes]

theorem resumeOk_of_mismatch (hq : s.seq = .setupRd) {d : Word} (hm : idMatch d = false) :
    resumeOk d s = raise (.fatal .unrecognised) { s with buf := d } := by
  rw [resumeOk_of_setupRd hq, setupCheck_of_mismatch _ (by rwa [beWord_bytes]), beWord_bytes]

/-- Settles O29: at each position of SETUP, what the sequencer does with a good answer. -/
theorem setupGoesOnWithGoodAnswers : Obligations.SetupGoesOnWithGoodAnswers := by
  refine fun s r b0 b1 ho => ⟨fun hq => ?_, fun hq hm => ?_, fun hq hm => ?_, fun hq => ?_⟩
  · rw [exec_tOk_of_outstanding ho, resumeOk_of_setupSel (by exact hq)]
    rfl
  · rw [exec_tOk_of_outstanding ho, resumeOk_of_match (by exact hq) ((idMatch_iff _).2 hm)]
    rfl
  · have hmiss : idMatch (b0 ++ b1) = false := by rwa [← Bool.not_eq_true, idMatch_iff]
    rw [exec_tOk_of_outstanding ho, resumeOk_of_mismatch (by exact hq) hmiss,
      raise_fatal_of_busy (by simp [answered, hq])]
    simp [answered, FatalCause.kind, FatalCause.msg]
  · rw [exec_tOk_of_outstanding ho, resumeOk_of_setupWb (by exact hq), setupFinish,
      endCommand_of_busy _ _ (by simp [answered, hq])]
    simp [answered, configurePin, releaseBuf, respond, record, Completion.code]

/-- Settles O30: each position of SETUP raises its fatal cause. -/
theorem setupFailsOnErrors : Obligations.SetupFailsOnErrors := by
  refine fun s r d ho => ⟨fun hq => ?_, fun hq => ?_⟩
  · rcases hq with hq | hq
    · rw [exec_tErr_of_outstanding ho, resumeErr_of_setupSel (by exact hq),
        raise_fatal_of_busy (by simp [answered, hq])]
      simp [answered, FatalCause.kind, FatalCause.msg, record]
    · rw [exec_tErr_of_outstanding ho, resumeErr_of_setupRd (by exact hq),
        raise_fatal_of_busy (by simp [answered, hq])]
      simp [answered, FatalCause.kind, FatalCause.msg, record]
  · rw [exec_tErr_of_outstanding ho, resumeErr_of_setupWb (by exact hq),
      raise_fatal_of_busy (by simp [answered, hq])]
    simp [answered, FatalCause.kind, FatalCause.msg, record]

/-- Settles O34: with nothing taken at the transport port, the sample is the step. -/
theorem powerSourceIsPublishedAsRead : Obligations.PowerSourceIsPublishedAsRead := by
  intro s hreset hrsp ht hq
  rw [step_of_no_request hreset hrsp ht]
  simp [nextSample, hq, runAction, powerSample, endCommand, releaseBuf, respond, publishLevel, record,
    clearStrobes, Completion.code]

/-- Settles O35: the write's answer, and the end of the command. -/
theorem sleepRecordsItsAnswer : Obligations.SleepRecordsItsAnswer := by
  intro s r d ho hq
  rw [exec_tOk_of_outstanding ho, exec_tErr_of_outstanding ho, resumeOk_of_slpWr (by exact hq),
    resumeErr_of_slpWr (by exact hq), sleepSuccess, sleepFailure, raise_warn,
    endCommand_of_busy _ _ (by simp [answered, hq]), endCommand_of_busy _ _ (by simp [answered, hq])]
  simp [answered, releaseBuf, respond, record, Completion.code, WarnCause.msg]

/-- Settles O32: the reading is held and published and clears a warning, and what follows keeps all three. -/
theorem socReadingSucceeds : Obligations.SocReadingSucceeds := by
  intro s r raw ho hq
  refine ⟨_, exec_tOk_of_outstanding ho raw, ?_⟩
  rw [resumeOk_of_updSoc (by exact hq), socSuccess]
  generalize hu : clearWarning _ = u
  have kept := updatePower_keeps u
  have hcfg : u.cfg = s.cfg := by simp [← hu, answered]
  have htReq : u.tReq = s.tReq := by simp [← hu, answered]
  have hrsp : u.rsp = s.rsp := by simp [← hu, answered]
  obtain ⟨sameReq, toPs, toEnd⟩ := updatePower_goesOn u
  rw [hcfg] at toPs toEnd
  rw [hrsp] at toPs
  rw [htReq] at sameReq
  have held : (updatePower u).socOut = ⟨true, rne32 (socdec raw)⟩ := by
    rw [kept.socOut, ← hu, clearWarning_socOut]
    rfl
  have strobe : (updatePower u).socStrobe = true := by
    rw [kept.socStrobe, ← hu, clearWarning_socStrobe]
    rfl
  refine ⟨held, congrArg NumHold.value held, strobe, fun hk => ?_, fun hk => ?_, toPs, toEnd, ?_⟩
  · rw [kept.stKind, kept.stMsg, kept.trace, ← hu, clearWarning_of_warning _ (by exact hk)]
    simp [answered, socWord]
  · rw [kept.stKind, kept.stMsg, kept.trace, ← hu, clearWarning_of_not_warning _ (by exact hk)]
    simp [answered, socWord]
  · rw [kept.outstanding, sameReq, kept.lc, kept.asleep, kept.pinCfg, kept.voltOut, kept.psrcOut,
      kept.vStrobe, kept.psStrobe, ← hu]
    simp [answered]

/-! ## Answers: what they leave -/

/-- An answer is ignored, or writes what `AnswerWrites` says and moves on. -/
theorem answer_writes {d : Word} {i : Instr} (hi : i = .tOk d ∨ i = .tErr d) (h : exec i s = .next t) :
    t = s ∨ ∃ (ok : Bool) (c : Answer) (v : State), (ok = true → i = .tOk d) ∧
      AnswerWrites (answered c s) ok v ∧ MovesOn v t := by
  cases ho : s.outstanding with
  | none =>
    obtain ⟨hok, herr⟩ := unsolicitedAnswerIsIgnored s d ho
    rcases hi with rfl | rfl
    · exact .inl (Host.Outcome.next.inj (h.symm.trans hok))
    · exact .inl (Host.Outcome.next.inj (h.symm.trans herr))
  | some r =>
    right
    rcases hi with rfl | rfl
    · obtain rfl := Host.Outcome.next.inj ((exec_tOk_of_outstanding ho d).symm.trans h)
      obtain ⟨v, hw, hm⟩ := resumeOk_writes d (answered (r.okAnswer d) s)
      exact ⟨true, _, v, fun _ => rfl, hw, hm⟩
    · obtain rfl := Host.Outcome.next.inj ((exec_tErr_of_outstanding ho d).symm.trans h)
      obtain ⟨v, hw, hm⟩ := resumeErr_writes (answered .err s)
      exact ⟨false, _, v, nofun, hw, hm⟩

/-- Settles O36: each case of what an answer writes leaves the rest. -/
theorem answersLeaveTheRestAlone : Obligations.AnswersLeaveTheRestAlone := by
  intro s t d i hi h
  rcases answer_writes hi h with rfl | ⟨ok, c, v, hok, hw, q, w, p, b, n, rfl⟩
  · simp
  cases hw with
  | nothing ok => simp [answered]
  | fatal ok f hq =>
    have hset : s.seq.inSetup = true := by rw [show s.seq = f.position from hq, f.position_inSetup]
    simp [answered, hset]
  | ready hq =>
    replace hq : s.seq = .setupWb := hq
    simp [answered, hq, hok, SeqPos.inSetup, configurePin]
  | volt e hq =>
    replace hq : s.seq = .updV := hq
    simp [answered, hq, SeqPos.inSetup, clearWarning_trace]
  | soc e hq =>
    replace hq : s.seq = .updSoc := hq
    simp [answered, hq, SeqPos.inSetup, clearWarning_trace]
  | warn f hq => simp [answered]
  | asleep hq =>
    replace hq : s.seq = .slpWr := hq
    simp [answered, hq, hok, SeqPos.inSetup]

/-! ## Answers: the buffer (R29) -/

/-- From `s`, the end of the command has left a free value in `BUF`, or the command goes on and `BUF` stands. -/
structure BufferKept (s t : State) : Prop where
  ended : t.seq = .idle → t.buf = Config.freeBuf s.freeCount ∧ t.freeCount = s.freeCount + 1
  goesOn : t.seq ≠ .idle → t.buf = s.buf ∧ t.freeCount = s.freeCount

theorem bufferKept_of_endCommand (hq : s.seq ≠ .idle) (c : Completion) : BufferKept s (endCommand c s) := by
  rw [endCommand_of_busy s c hq]
  exact ⟨fun _ => ⟨rfl, rfl⟩, fun h => absurd rfl h⟩

theorem bufferKept_of_updatePower (hq : s.seq ≠ .idle) : BufferKept s (updatePower s) := by
  cases hp : s.cfg.sinkPs with
  | true => rw [updatePower_of_present s hp]; exact ⟨nofun, fun _ => ⟨rfl, rfl⟩⟩
  | false => rw [updatePower_of_absent s hp]; exact bufferKept_of_endCommand hq .done

theorem bufferKept_of_updateSoc (hq : s.seq ≠ .idle) : BufferKept s (updateSoc s) := by
  cases hs : s.cfg.sinkSoc with
  | true => rw [updateSoc_of_present s hs]; exact ⟨nofun, fun _ => ⟨rfl, rfl⟩⟩
  | false => rw [updateSoc_of_absent s hs]; exact bufferKept_of_updatePower hq

/-- Only the buffer, its counter and the position are read. -/
theorem BufferKept.of_eq {u : State} (h : BufferKept u t) (hb : u.buf = s.buf) (hn : u.freeCount = s.freeCount) :
    BufferKept s t := by
  obtain ⟨hend, hon⟩ := h
  rw [hn] at hend hon
  rw [hb] at hon
  exact ⟨hend, hon⟩

theorem bufferKept_of_raise_fatal (hq : s.seq ≠ .idle) (c : FatalCause) : BufferKept s (raise (.fatal c) s) :=
  (bufferKept_of_endCommand (s := writeStatus c.kind c.msg { s with lc := .failed }) hq .done).of_eq rfl rfl

/-- What a good answer puts in `BUF`: the data of a read. -/
def bufferAfterOk (d : Word) (s : State) : Word :=
  match s.seq with
  | .idle | .setupSel | .setupWb | .updPs | .slpWr => s.buf
  | .setupRd | .updV | .updSoc => d

theorem bufferKept_of_resumeOk (hq : s.seq ≠ .idle) (d : Word) :
    BufferKept { s with buf := bufferAfterOk d s } (resumeOk d s) := by
  cases hs : s.seq with
  | idle => exact absurd hs hq
  | setupSel =>
    rw [resumeOk_of_setupSel hs]
    exact ⟨nofun, fun _ => ⟨by simp [bufferAfterOk, hs, setupRead], rfl⟩⟩
  | setupRd =>
    have hb : bufferAfterOk d s = d := by simp [bufferAfterOk, hs]
    rw [hb]
    cases hm : idMatch d with
    | true => rw [resumeOk_of_match hs hm]; exact ⟨nofun, fun _ => ⟨rfl, rfl⟩⟩
    | false =>
      rw [resumeOk_of_mismatch hs hm]
      exact (bufferKept_of_raise_fatal (s := { s with buf := d }) hq _).of_eq rfl rfl
  | setupWb =>
    have hb : bufferAfterOk d s = s.buf := by simp [bufferAfterOk, hs]
    rw [resumeOk_of_setupWb hs, hb]
    exact (bufferKept_of_endCommand (s := { configurePin s with asleep := false, lc := .ready }) hq
      .done).of_eq rfl rfl
  | updV =>
    have hb : bufferAfterOk d s = d := by simp [bufferAfterOk, hs]
    rw [resumeOk_of_updV hs, hb]
    exact (bufferKept_of_updateSoc (by simpa using hq)).of_eq (by simp) (by simp)
  | updSoc =>
    have hb : bufferAfterOk d s = d := by simp [bufferAfterOk, hs]
    rw [resumeOk_of_updSoc hs, hb]
    exact (bufferKept_of_updatePower (by simpa using hq)).of_eq (by simp) (by simp)
  | updPs =>
    rw [resumeOk_of_no_request (.inr hs)]
    exact ⟨fun hi => absurd hi hq, fun _ => ⟨by simp [bufferAfterOk, hs], rfl⟩⟩
  | slpWr =>
    have hb : bufferAfterOk d s = s.buf := by simp [bufferAfterOk, hs]
    rw [resumeOk_of_slpWr hs, hb]
    exact (bufferKept_of_endCommand (s := { s with asleep := true }) hq .done).of_eq rfl rfl

theorem bufferKept_of_resumeErr (hq : s.seq ≠ .idle) : BufferKept s (resumeErr s) := by
  cases hs : s.seq with
  | idle => exact absurd hs hq
  | setupSel => rw [resumeErr_of_setupSel hs]; exact bufferKept_of_raise_fatal hq _
  | setupRd => rw [resumeErr_of_setupRd hs]; exact bufferKept_of_raise_fatal hq _
  | setupWb => rw [resumeErr_of_setupWb hs]; exact bufferKept_of_raise_fatal hq _
  | updV =>
    rw [resumeErr_of_updV hs]
    exact (bufferKept_of_updateSoc (s := raise (.warn .vcell) s) hq).of_eq rfl rfl
  | updSoc =>
    rw [resumeErr_of_updSoc hs]
    exact (bufferKept_of_updatePower (s := raise (.warn .soc) s) hq).of_eq rfl rfl
  | updPs => rw [resumeErr_of_no_request (.inr hs)]; exact ⟨fun hi => absurd hi hq, fun _ => ⟨rfl, rfl⟩⟩
  | slpWr =>
    rw [resumeErr_of_slpWr hs]
    exact (bufferKept_of_endCommand (s := raise (.warn .sleepWrite) s) hq .done).of_eq rfl rfl

/-- Settles O37: an answer that is taken keeps `BUF` but for a good read's data, until the command ends. -/
theorem answersAndTheBuffer : Obligations.AnswersAndTheBuffer := by
  intro s t d i hi h hq
  cases ho : s.outstanding with
  | none =>
    obtain ⟨hok, herr⟩ := unsolicitedAnswerIsIgnored s d ho
    obtain rfl : t = s := by
      rcases hi with rfl | rfl
      · exact Host.Outcome.next.inj (h.symm.trans hok)
      · exact Host.Outcome.next.inj (h.symm.trans herr)
    simp [hq]
  | some r =>
    rcases hi with rfl | rfl
    · obtain rfl := Host.Outcome.next.inj ((exec_tOk_of_outstanding ho d).symm.trans h)
      obtain ⟨hend, hon⟩ := bufferKept_of_resumeOk (s := answered (r.okAnswer d) s) hq d
      refine ⟨hend, fun hgo => ⟨(hon hgo).2, fun _ _ hs => ?_, fun hs => ?_⟩⟩
      · rw [(hon hgo).1]
        rcases hs with hs | hs | hs <;> simp [bufferAfterOk, answered, hs]
      · rw [(hon hgo).1]
        have hs : s.seq = .setupSel := by simpa using hs
        simp [bufferAfterOk, answered, hs]
    · obtain rfl := Host.Outcome.next.inj ((exec_tErr_of_outstanding ho d).symm.trans h)
      obtain ⟨hend, hon⟩ := bufferKept_of_resumeErr (s := answered .err s) hq
      exact ⟨hend, fun hgo => ⟨(hon hgo).2, nofun, fun _ => (hon hgo).1⟩⟩

end Sys2Proof.Machine

/-! PROOFS. Whole commands: every one ends if the transport answers (70_reset_and_hazards.md R190, R204), and
SETUP's five paths (40_setup.md R100 to R107). -/

namespace Sys2Proof.Machine

variable {s t u : State}

/-! ## An answer word, with what it carries -/

/-- What an answer word carries to the request `r` (R80). -/
def carried (r : Request) (a : BitVec 17) : Answer := if trspOk a then r.okAnswer (trspData a) else .err

theorem carried_of_ok {a : BitVec 17} (ha : trspOk a = true) (r : Request) :
    carried r a = r.okAnswer (trspData a) := if_pos ha

theorem carried_of_err {a : BitVec 17} (ha : trspOk a = false) (r : Request) : carried r a = .err := by
  simp [carried, ha]

theorem resume_of_ok {a : BitVec 17} (ha : trspOk a = true) (s : State) :
    resume a s = resumeOk (trspData a) s := if_pos ha

theorem resume_of_err {a : BitVec 17} (ha : trspOk a = false) (s : State) : resume a s = resumeErr s := by
  simp [resume, ha]

/-- At rest, an answer that comes is recorded and takes the sequencer on. -/
theorem step_of_answer_carried {r : Request} {a : BitVec 17} {rest : List PortInput} (h : s.AtRest)
    (ho : s.outstanding = some r) (hin : s.inputs = .answer a :: rest) :
    step s = .next (resume a (answered (carried r a) (setInputs rest (clearStrobes s)))) := by
  have hstep : step s = exec (decodeTrsp a) (setInputs rest (clearStrobes s)) := by
    rw [step_of_atRest h (not_resetAsserted_of_inputs hin nofun)]
    simp [nextInput, hin, runAction, runWord]
  rw [hstep, decodeTrsp_eq]
  cases ha : trspOk a with
  | true =>
    rw [resume_of_ok ha, carried_of_ok ha, if_pos rfl]
    exact exec_tOk_of_outstanding (by exact ho) _
  | false =>
    rw [resume_of_err ha, carried_of_err ha, if_neg nofun]
    exact exec_tErr_of_outstanding (by exact ho) _

/-! ## A run that ends the command -/

theorem clearWarning_appends (s : State) :
    ∃ evs, (clearWarning s).trace = s.trace ++ evs ∧ ∀ e ∈ evs, ∀ code, e ≠ .done code := by
  refine ⟨_, clearWarning_trace s, ?_⟩
  split <;> simp

/-- A busy block's step records no completion. -/
theorem step_trace_of_busy (h : Inv s) (hq : s.seq ≠ .idle) (hreset : ¬ s.resetAsserted)
    (hst : step s = .next t) :
    ∃ evs, t.trace = s.trace ++ evs ∧ ∀ e ∈ evs, ∀ code, e ≠ .done code := by
  obtain ⟨v, hv, kept⟩ := step_writes hst
  rw [kept.trace]
  cases hv with
  | nothing => exact ⟨[], by simp⟩
  | reset hr => exact absurd hr hreset
  | complete c hr => exact absurd (h.port.completing _ hr).1 hq
  | issue r ht => exact ⟨[_], rfl, by simp⟩
  | sample hp => exact ⟨[.din s.dinLevel, .pub (.ps s.dinLevel)], by simp [publishLevel], by simp⟩
  | command l cs v hc =>
    cases hc with
    | nothing => exact ⟨[], by simp⟩
    | taken op => exact ⟨[_], rfl, by simp⟩
    | setup hlc => exact ⟨[_], rfl, by simp⟩
  | answer r c ok l v ho ha =>
    cases ha with
    | nothing ok => exact ⟨[_], rfl, by simp⟩
    | asleep hp => exact ⟨[_], rfl, by simp⟩
    | fatal ok f hp => exact ⟨[.tRsp c, .status f.kind f.msg], by simp [answered], by simp⟩
    | warn f hp => exact ⟨[.tRsp c, .status .warning f.msg], by simp [answered], by simp⟩
    | ready hp => exact ⟨[.tRsp c, .pinCfg], by simp [answered, configurePin], by simp⟩
    | volt d hp =>
      obtain ⟨evs, htrace, hno⟩ := clearWarning_appends (publishVolt (voltWord d) (answered c (setInputs l
        (clearStrobes s))))
      exact ⟨.tRsp c :: .pub (.v (voltWord d)) :: evs, by rw [htrace]; simp [answered], by simpa using hno⟩
    | soc d hp =>
      obtain ⟨evs, htrace, hno⟩ := clearWarning_appends (publishSoc (socWord d) (answered c (setInputs l
        (clearStrobes s))))
      exact ⟨.tRsp c :: .pub (.soc (socWord d)) :: evs, by rw [htrace]; simp [answered], by simpa using hno⟩

/-- A run of at most `n` transfers, none of them a completion, ends the command with `DONE`. -/
def EndsWithin (n : Nat) (s : State) : Prop :=
  ∃ k ≤ n, ∃ t evs, Sys2Proof.core.run k s = .next t ∧ Inv t ∧ t.seq = .idle ∧ t.rsp = some 0b00#2 ∧
    t.trace = s.trace ++ evs ∧ ∀ e ∈ evs, ∀ code, e ≠ .done code

theorem EndsWithin.of_idle (h : Inv s) (hq : s.seq = .idle) (hrsp : s.rsp = some 0b00#2) (n : Nat) :
    EndsWithin n s :=
  ⟨0, n.zero_le, s, [], run_zero, h, hq, hrsp, by simp, by simp⟩

theorem EndsWithin.of_step {n : Nat} (h : Inv s) (hq : s.seq ≠ .idle) (hreset : ¬ s.resetAsserted)
    (hst : step s = .next u) (he : EndsWithin n u) : EndsWithin (n + 1) s := by
  obtain ⟨k, hk, t, evs, hrun, ht, htq, hrsp, htrace, hno⟩ := he
  obtain ⟨evs', htrace', hno'⟩ := step_trace_of_busy h hq hreset hst
  refine ⟨k + 1, by omega, t, evs' ++ evs, (run_succ k hst).trans hrun, ht, htq, hrsp, ?_, ?_⟩
  · rw [htrace, htrace', List.append_assoc]
  · exact fun e he => (List.mem_append.1 he).elim (hno' e) (hno e)

theorem EndsWithin.mono {m n : Nat} (h : m ≤ n) (he : EndsWithin m s) : EndsWithin n s := by
  obtain ⟨k, hk, rest⟩ := he
  exact ⟨k, hk.trans h, rest⟩

/-- A block between two requests, its phase by its lifecycle. -/
structure Between (s : State) : Prop where
  serving : s.seq.inSetup = false → Serving s
  checking : s.seq.inSetup = true → Checking s

/-- A busy block whose request is answered is between two requests. -/
theorem between_answered (h : Inv s) {r : Request} (ho : s.outstanding = some r) (c : Answer) :
    Between (answered c s) := by
  have hq : s.seq ≠ .idle := by
    intro hi
    simp [(inv_idle_clear h hi).2] at ho
  have mode : ModeInv (answered c s) := { h.mode with }
  have clear := portsClear_of_answered h ho (.tRsp c)
  refine ⟨fun hset => serving_of_ready mode (h.port.busy_ready hq hset) clear, fun hset => ?_⟩
  have hlc := h.mode.validating_iff.2 hset
  exact checking_of_validating mode hlc (h.port.validating_status hlc) clear

theorem inv_rsp_of_busy (h : Inv s) (hq : s.seq ≠ .idle) : s.rsp = none := by
  cases hrsp : s.rsp with
  | none => rfl
  | some w => exact absurd (h.port.completing w hrsp).1 hq

/-- An outstanding request is answered in one transfer. -/
theorem endsWithin_of_outstanding {n : Nat} {a : BitVec 17} {rest : List PortInput} (h : Inv s)
    (ho : s.outstanding ≠ none) (hready : s.tReady = true) (hin : s.inputs = .answer a :: rest)
    (hend : ∀ u, Between u → u.seq = s.seq → u.tReady = true → u.inputs = rest →
      EndsWithin n (resume a u)) : EndsWithin (n + 1) s := by
  obtain ⟨r, hr⟩ := Option.ne_none_iff_exists'.1 ho
  have between := between_answered (inv_setInputs (inv_clearStrobes h) rest) hr (carried r a)
  exact .of_step h (fun hq => ho (inv_idle_clear h hq).2) (not_resetAsserted_of_inputs hin nofun)
    (step_of_answer_carried (inv_atRest_of_outstanding h hr) hr hin) (hend _ between rfl hready rfl)

/-- A request, offered or outstanding, is answered in two transfers at most. -/
theorem endsWithin_of_request {n : Nat} {q : SeqPos} {r : Request} {a : BitVec 17} {rest : List PortInput}
    (h : Inv s) (hq : s.seq = q) (hr : q.request = some r) (hready : s.tReady = true)
    (hin : s.inputs = .answer a :: rest)
    (hend : ∀ u, Between u → u.seq = q → u.tReady = true → u.inputs = rest → EndsWithin n (resume a u)) :
    EndsWithin (n + 2) s := by
  subst hq
  rcases h.port.waiting (by simp [hr]) with ht | ho
  · have hbusy : s.seq ≠ .idle := fun hi => ht (inv_idle_clear h hi).1
    have hreset := not_resetAsserted_of_inputs hin nofun
    obtain ⟨w, hw⟩ := Option.ne_none_iff_exists'.1 ht
    obtain ⟨-, r', -, rfl⟩ := h.port.offered w hw
    have hst := step_of_offered hreset (inv_rsp_of_busy h hbusy) hw hready
    exact .of_step h hbusy hreset hst (endsWithin_of_outstanding (inv_step h hst) nofun hready hin hend)
  · exact (endsWithin_of_outstanding h ho hready hin hend).mono (by omega)

/-! ### UPDATE and SLEEP -/

theorem endsWithin_of_updPs (h : Inv s) (hq : s.seq = .updPs) (hreset : ¬ s.resetAsserted) :
    EndsWithin 1 s := by
  have hbusy : s.seq ≠ .idle := by simp [hq]
  have hst := step_of_updPs hreset (inv_rsp_of_busy h hbusy) (inv_no_request h (by rw [hq]; rfl)).1 hq
  exact .of_step h hbusy hreset hst (.of_idle (inv_step h hst) (endCommand_seq _ _) rfl 0)

theorem Serving.updatePower_endsWithin (h : Serving s) (hreset : ¬ s.resetAsserted) :
    EndsWithin 1 (updatePower s) := by
  have hinv := h.inv_updatePower
  cases hp : s.cfg.sinkPs with
  | true =>
    rw [updatePower_of_present s hp] at hinv ⊢
    exact endsWithin_of_updPs hinv rfl hreset
  | false =>
    rw [updatePower_of_absent s hp] at hinv ⊢
    exact .of_idle hinv (endCommand_seq _ _) rfl 1

theorem endsWithin_of_updSoc {a b : BitVec 17} {rest : List PortInput} (h : Inv s) (hq : s.seq = .updSoc)
    (hready : s.tReady = true) (hin : s.inputs = .answer a :: .answer b :: rest) : EndsWithin 3 s := by
  refine endsWithin_of_request h hq rfl hready hin fun u hu huq _ huin => ?_
  obtain ⟨v, hv, done⟩ := (hu.serving (by rw [huq]; rfl)).resume_soc huq a
  rw [hv]
  exact done.serving.updatePower_endsWithin (not_resetAsserted_of_inputs (done.inputs.trans huin) nofun)

theorem Serving.updateSoc_endsWithin {a b : BitVec 17} {rest : List PortInput} (h : Serving s)
    (hready : s.tReady = true) (hin : s.inputs = .answer a :: .answer b :: rest) :
    EndsWithin 3 (updateSoc s) := by
  have hinv := h.inv_updateSoc
  cases hs : s.cfg.sinkSoc with
  | true =>
    rw [updateSoc_of_present s hs] at hinv ⊢
    exact endsWithin_of_updSoc hinv rfl hready hin
  | false =>
    rw [updateSoc_of_absent s hs]
    exact (h.updatePower_endsWithin (not_resetAsserted_of_inputs hin nofun)).mono (by omega)

theorem endsWithin_of_updV {a b c : BitVec 17} {rest : List PortInput} (h : Inv s) (hq : s.seq = .updV)
    (hready : s.tReady = true) (hin : s.inputs = .answer a :: .answer b :: .answer c :: rest) :
    EndsWithin 5 s := by
  refine endsWithin_of_request h hq rfl hready hin fun u hu huq huready huin => ?_
  obtain ⟨v, hv, done⟩ := (hu.serving (by rw [huq]; rfl)).resume_volt huq a
  rw [hv]
  exact done.serving.updateSoc_endsWithin (done.tReady.trans huready) (done.inputs.trans huin)

theorem endsWithin_of_slpWr {a : BitVec 17} {rest : List PortInput} (h : Inv s) (hq : s.seq = .slpWr)
    (hready : s.tReady = true) (hin : s.inputs = .answer a :: rest) : EndsWithin 2 s := by
  refine endsWithin_of_request h hq rfl hready hin fun u hu huq _ _ => ?_
  have hset : u.seq.inSetup = false := by rw [huq]; rfl
  have hreq : u.seq.request ≠ none := by simp [huq, SeqPos.request]
  cases ha : trspOk a with
  | true =>
    have hinv := (hu.serving hset).inv_resumeOk hset hreq (trspData a)
    rw [resume_of_ok ha]
    rw [resumeOk_of_slpWr huq] at hinv ⊢
    exact .of_idle hinv (endCommand_seq _ _) rfl 0
  | false =>
    have hinv := (hu.serving hset).inv_resumeErr hset hreq
    rw [resume_of_err ha]
    rw [resumeErr_of_slpWr huq] at hinv ⊢
    exact .of_idle hinv (endCommand_seq _ _) rfl 0

/-! ### SETUP -/

theorem Checking.raise_fatal_endsWithin (h : Checking s) (c : FatalCause) :
    EndsWithin 0 (raise (.fatal c) s) :=
  .of_idle (h.inv_raise_fatal c) (endCommand_seq _ _) rfl 0

theorem endsWithin_of_setupWb {a : BitVec 17} {rest : List PortInput} (h : Inv s) (hq : s.seq = .setupWb)
    (hready : s.tReady = true) (hin : s.inputs = .answer a :: rest) : EndsWithin 2 s := by
  refine endsWithin_of_request h hq rfl hready hin fun u hu huq _ _ => ?_
  have hcheck := hu.checking (by rw [huq]; rfl)
  cases ha : trspOk a with
  | true =>
    rw [resume_of_ok ha, resumeOk_of_setupWb huq]
    exact .of_idle hcheck.inv_setupFinish (endCommand_seq _ _) rfl 0
  | false =>
    rw [resume_of_err ha, resumeErr_of_setupWb huq]
    exact hcheck.raise_fatal_endsWithin _

theorem endsWithin_of_setupRd {a b : BitVec 17} {rest : List PortInput} (h : Inv s) (hq : s.seq = .setupRd)
    (hready : s.tReady = true) (hin : s.inputs = .answer a :: .answer b :: rest) : EndsWithin 4 s := by
  refine endsWithin_of_request h hq rfl hready hin fun u hu huq huready huin => ?_
  have hcheck := hu.checking (by rw [huq]; rfl)
  cases ha : trspOk a with
  | true =>
    rw [resume_of_ok ha]
    cases hm : idMatch (trspData a) with
    | true =>
      rw [resumeOk_of_match huq hm]
      exact endsWithin_of_setupWb ((hcheck.set_buf (trspData a)).inv_offer .setupWb rfl rfl) rfl huready huin
    | false =>
      rw [resumeOk_of_mismatch huq hm]
      exact ((hcheck.set_buf _).raise_fatal_endsWithin _).mono (by omega)
  | false =>
    rw [resume_of_err ha, resumeErr_of_setupRd huq]
    exact (hcheck.raise_fatal_endsWithin _).mono (by omega)

theorem endsWithin_of_setupSel {a b c : BitVec 17} {rest : List PortInput} (h : Inv s)
    (hq : s.seq = .setupSel) (hready : s.tReady = true)
    (hin : s.inputs = .answer a :: .answer b :: .answer c :: rest) : EndsWithin 6 s := by
  refine endsWithin_of_request h hq rfl hready hin fun u hu huq huready huin => ?_
  have hcheck := hu.checking (by rw [huq]; rfl)
  cases ha : trspOk a with
  | true =>
    rw [resume_of_ok ha, resumeOk_of_setupSel huq]
    exact endsWithin_of_setupRd (hcheck.inv_offer .setupRd rfl rfl) rfl huready huin
  | false =>
    rw [resume_of_err ha, resumeErr_of_setupSel huq]
    exact (hcheck.raise_fatal_endsWithin _).mono (by omega)

theorem endsWithin_of_busy {a b c : BitVec 17} {rest : List PortInput} (h : Inv s) (hq : s.seq ≠ .idle)
    (hready : s.tReady = true) (hin : s.inputs = .answer a :: .answer b :: .answer c :: rest) :
    EndsWithin 6 s := by
  cases hs : s.seq with
  | idle => exact absurd hs hq
  | setupSel => exact endsWithin_of_setupSel h hs hready hin
  | setupRd => exact (endsWithin_of_setupRd h hs hready hin).mono (by omega)
  | setupWb => exact (endsWithin_of_setupWb h hs hready hin).mono (by omega)
  | updV => exact (endsWithin_of_updV h hs hready hin).mono (by omega)
  | updSoc => exact (endsWithin_of_updSoc h hs hready hin).mono (by omega)
  | updPs => exact (endsWithin_of_updPs h hs (not_resetAsserted_of_inputs hin nofun)).mono (by omega)
  | slpWr => exact (endsWithin_of_slpWr h hs hready hin).mono (by omega)

/-- Settles O58: position by position, from the last request back; the invariant says what an idle block has. -/
theorem commandEndsIfTheTransportAnswers : Obligations.CommandEndsIfTheTransportAnswers := by
  intro s a b c rest h hq hready hin
  obtain ⟨k, hk, t, evs, hrun, ht, htq, hrsp, htrace, hno⟩ := endsWithin_of_busy h hq hready hin
  obtain ⟨htr, hout⟩ := inv_idle_clear ht htq
  refine ⟨k, hk, t, hrun, htq, hrsp, htr, hout, fun hlc => ?_, ?_⟩
  · have hset := ht.mode.validating_iff.1 hlc
    simp [htq, SeqPos.inSetup] at hset
  · rwa [htrace, List.drop_left]

/-! ## SETUP, path by path -/

/-- A run from `s` ends a SETUP with this lifecycle, status and pin, and these events. -/
def SetupEnds (s : State) (lc : Lifecycle) (k : StKind) (m : StMsg) (pin : Bool) (evs : List Event) : Prop :=
  ∃ n t, Sys2Proof.core.run n s = .next t ∧ t.seq = .idle ∧ t.rsp = some 0b00#2 ∧
    t.trace = s.trace ++ evs ∧ t.lc = lc ∧ t.stKind = k ∧ t.stMsg = m ∧ t.pinCfg = pin ∧
    (lc = .ready → t.asleep = false)

/-- A SETUP of a block with these parameters, pin and status offers the request of its position, to a transport
that takes it, with these inputs to come. -/
structure SetupOffers (cfg : Config) (pin : Bool) (k : StKind) (m : StMsg) (q : SeqPos) (r : Request)
    (inputs : List PortInput) (s : State) : Prop where
  seq : s.seq = q
  request : q.request = some r
  tReq : s.tReq = some r.word
  rsp : s.rsp = none
  tReady : s.tReady = true
  inputs : s.inputs = inputs
  cfg : s.cfg = cfg
  pinCfg : s.pinCfg = pin
  stKind : s.stKind = k
  stMsg : s.stMsg = m

/-- The state in which the sequencer goes on after the request `r` was taken and answered with `a`. -/
def exchanged (r : Request) (a : BitVec 17) (rest : List PortInput) (s : State) : State :=
  answered (carried r a) (setInputs rest (clearStrobes (issue r (clearStrobes s))))

section Paths
variable {cfg : Config} {k : StKind} {m : StMsg} {pin : Bool} {q : SeqPos} {r : Request} {a : BitVec 17}
  {rest : List PortInput}

@[simp] theorem exchanged_seq : (exchanged r a rest s).seq = s.seq := by
  simp [exchanged, answered]
@[simp] theorem exchanged_rsp : (exchanged r a rest s).rsp = s.rsp := by
  simp [exchanged, answered]
@[simp] theorem exchanged_tReady : (exchanged r a rest s).tReady = s.tReady := by
  simp [exchanged, answered]
@[simp] theorem exchanged_inputs : (exchanged r a rest s).inputs = rest := by
  simp [exchanged, answered]
@[simp] theorem exchanged_cfg : (exchanged r a rest s).cfg = s.cfg := by
  simp [exchanged, answered]
@[simp] theorem exchanged_pinCfg : (exchanged r a rest s).pinCfg = s.pinCfg := by
  simp [exchanged, answered]
@[simp] theorem exchanged_stKind : (exchanged r a rest s).stKind = s.stKind := by
  simp [exchanged, answered]
@[simp] theorem exchanged_stMsg : (exchanged r a rest s).stMsg = s.stMsg := by
  simp [exchanged, answered]
@[simp] theorem exchanged_trace : (exchanged r a rest s).trace =
    s.trace ++ [.tReq s.cfg.devAddr r, .tRsp (carried r a)] := by
  simp [exchanged, answered]

theorem SetupEnds.of_step {lc : Lifecycle} {evs evs' : List Event} (hst : step s = .next t)
    (htrace : t.trace = s.trace ++ evs) (h : SetupEnds t lc k m pin evs') :
    SetupEnds s lc k m pin (evs ++ evs') := by
  obtain ⟨n, u, hrun, hq, hrsp, hu, hend⟩ := h
  exact ⟨n + 1, u, (run_succ n hst).trans hrun, hq, hrsp, by rw [hu, htrace, List.append_assoc], hend⟩

/-- A request and its answer are two transfers, and the sequencer goes on. -/
theorem SetupOffers.exchange {lc : Lifecycle} {k' : StKind} {m' : StMsg} {pin' : Bool}
    {evs evs' : List Event} (h : SetupOffers cfg pin k m q r (.answer a :: rest) s)
    (htrace : (resume a (exchanged r a rest s)).trace = (exchanged r a rest s).trace ++ evs)
    (hend : SetupEnds (resume a (exchanged r a rest s)) lc k' m' pin' evs') :
    SetupEnds s lc k' m' pin' (.tReq cfg.devAddr r :: .tRsp (carried r a) :: (evs ++ evs')) := by
  have hissue := step_of_offered (not_resetAsserted_of_inputs h.inputs nofun) h.rsp h.tReq h.tReady
  have hq : s.seq.request = some r := by rw [h.seq, h.request]
  have hrest : (issue r (clearStrobes s)).AtRest :=
    ⟨h.rsp, .inl rfl, .inr (ne_of_request hq).1, (ne_of_request hq).2⟩
  have hanswer := step_of_answer_carried hrest rfl (by exact h.inputs)
  refine .of_step (evs := [.tReq cfg.devAddr r]) hissue (by simp [h.cfg])
    (.of_step (evs := .tRsp (carried r a) :: evs) hanswer ?_ hend)
  exact htrace.trans (by simp)

/-- An answer that raises a fatal cause ends SETUP (R156). -/
theorem SetupOffers.ends_of_fatal (h : SetupOffers cfg pin k m q r (.answer a :: rest) s) (c : FatalCause)
    (b : Word) (hres : resume a (exchanged r a rest s) =
      raise (.fatal c) { exchanged r a rest s with buf := b }) :
    SetupEnds s .failed c.kind c.msg pin
      [.tReq cfg.devAddr r, .tRsp (carried r a), .status c.kind c.msg] := by
  refine h.exchange (evs := [.status c.kind c.msg]) (evs' := []) (by simp [hres, raise_fatal]) ?_
  rw [hres, raise_fatal]
  exact ⟨0, _, run_zero, endCommand_seq _ _, rfl, by simp, by simp, by simp, by simp, by simp [h.pinCfg],
    nofun⟩

/-! The select: a failed answer ends SETUP (R107), a good one leads to the identity read (R102). -/

theorem SetupOffers.select_failed
    (h : SetupOffers cfg pin k m .setupSel reqSelConfig (.answer a :: rest) s) (ha : trspOk a = false) :
    SetupEnds s .failed .warning .none pin
      [.tReq cfg.devAddr reqSelConfig, .tRsp .err, .status .warning .none] := by
  rw [← carried_of_err ha reqSelConfig]
  refine h.ends_of_fatal .xportSelect (exchanged reqSelConfig a rest s).buf ?_
  rw [resume_of_err ha, resumeErr_of_setupSel (by simp [h.seq])]

theorem SetupOffers.selected {lc : Lifecycle} {k' : StKind} {m' : StMsg} {pin' : Bool} {evs : List Event}
    (h : SetupOffers cfg pin k m .setupSel reqSelConfig (.answer a :: rest) s) (ha : trspOk a = true)
    (hend : ∀ t, SetupOffers cfg pin k m .setupRd reqRd2 rest t → SetupEnds t lc k' m' pin' evs) :
    SetupEnds s lc k' m' pin' (.tReq cfg.devAddr reqSelConfig :: .tRsp .ok :: evs) := by
  have hq : (exchanged reqSelConfig a rest s).seq = .setupSel := by simp [h.seq]
  have hres := (resume_of_ok ha _).trans (resumeOk_of_setupSel hq (trspData a))
  rw [show Answer.ok = carried reqSelConfig a from (carried_of_ok ha reqSelConfig).symm]
  refine h.exchange (evs := []) (by simp [hres, setupRead]) (hres ▸ hend _ ?_)
  exact ⟨rfl, rfl, rfl, by simp [setupRead, h.rsp], by simp [setupRead, h.tReady], by simp [setupRead],
    by simp [setupRead, h.cfg], by simp [setupRead, h.pinCfg], by simp [setupRead, h.stKind],
    by simp [setupRead, h.stMsg]⟩

/-! The identity read: a failed answer ends SETUP (R107), and so does another identity (R104); the right one
leads to the write-back (R105). -/

theorem carried_reqRd2_of_ok (ha : trspOk a = true) :
    carried reqRd2 a = .okBytes [hiByte (trspData a), loByte (trspData a)] := carried_of_ok ha reqRd2

theorem SetupOffers.read_failed (h : SetupOffers cfg pin k m .setupRd reqRd2 (.answer a :: rest) s)
    (ha : trspOk a = false) : SetupEnds s .failed .warning .none pin
      [.tReq cfg.devAddr reqRd2, .tRsp .err, .status .warning .none] := by
  rw [← carried_of_err ha reqRd2]
  refine h.ends_of_fatal .xportRead (exchanged reqRd2 a rest s).buf ?_
  rw [resume_of_err ha, resumeErr_of_setupRd (by simp [h.seq])]

theorem SetupOffers.unrecognised (h : SetupOffers cfg pin k m .setupRd reqRd2 (.answer a :: rest) s)
    (ha : trspOk a = true) (hm : idMatch (trspData a) = false) : SetupEnds s .failed .error .unrecognised pin
      [.tReq cfg.devAddr reqRd2, .tRsp (.okBytes [hiByte (trspData a), loByte (trspData a)]),
        .status .error .unrecognised] := by
  rw [← carried_reqRd2_of_ok ha]
  refine h.ends_of_fatal .unrecognised (trspData a) ?_
  rw [resume_of_ok ha, resumeOk_of_mismatch (by simp [h.seq]) hm]

theorem SetupOffers.recognised {lc : Lifecycle} {k' : StKind} {m' : StMsg} {pin' : Bool} {evs : List Event}
    (h : SetupOffers cfg pin k m .setupRd reqRd2 (.answer a :: rest) s) (ha : trspOk a = true)
    (hm : idMatch (trspData a) = true)
    (hend : ∀ t, SetupOffers cfg pin k m .setupWb reqWbConfig rest t → SetupEnds t lc k' m' pin' evs) :
    SetupEnds s lc k' m' pin' (.tReq cfg.devAddr reqRd2 ::
      .tRsp (.okBytes [hiByte (trspData a), loByte (trspData a)]) :: evs) := by
  have hq : (exchanged reqRd2 a rest s).seq = .setupRd := by simp [h.seq]
  have hres := (resume_of_ok ha _).trans (resumeOk_of_match hq hm)
  rw [← carried_reqRd2_of_ok ha]
  refine h.exchange (evs := []) (by simp [hres]) (hres ▸ hend _ ?_)
  exact ⟨rfl, rfl, rfl, by simp [h.rsp], by simp [h.tReady], by simp, by simp [h.cfg], by simp [h.pinCfg],
    by simp [h.stKind], by simp [h.stMsg]⟩

/-! The write-back: a failed answer ends SETUP (R105), a good one makes the block `READY` (R106). -/

theorem SetupOffers.writeBack_failed
    (h : SetupOffers cfg pin k m .setupWb reqWbConfig (.answer a :: rest) s) (ha : trspOk a = false) :
    SetupEnds s .failed .error .sleepResetFailed pin
      [.tReq cfg.devAddr reqWbConfig, .tRsp .err, .status .error .sleepResetFailed] := by
  rw [← carried_of_err ha reqWbConfig]
  refine h.ends_of_fatal .sleepResetFailed (exchanged reqWbConfig a rest s).buf ?_
  rw [resume_of_err ha, resumeErr_of_setupWb (by simp [h.seq])]

theorem SetupOffers.writtenBack (h : SetupOffers cfg pin k m .setupWb reqWbConfig (.answer a :: rest) s)
    (ha : trspOk a = true) :
    SetupEnds s .ready k m true [.tReq cfg.devAddr reqWbConfig, .tRsp .ok, .pinCfg] := by
  have hq : (exchanged reqWbConfig a rest s).seq = .setupWb := by simp [h.seq]
  have hres := (resume_of_ok ha _).trans (resumeOk_of_setupWb hq (trspData a))
  rw [show Answer.ok = carried reqWbConfig a from (carried_of_ok ha reqWbConfig).symm]
  refine h.exchange (evs := [.pinCfg]) (evs' := []) (by simp [hres, setupFinish]) ?_
  rw [hres, setupFinish]
  exact ⟨0, _, run_zero, endCommand_seq _ _, rfl, by simp, by simp, by simp [h.stKind], by simp [h.stMsg],
    by simp, by simp⟩

end Paths

/-- SETUP of a waiting `UNINIT` block is accepted, and its select offered (R100). -/
theorem setupEnds_of_waiting {lc : Lifecycle} {k : StKind} {m : StMsg} {pin : Bool} {evs : List Event}
    {rest : List PortInput} (hw : s.Waiting) (hlc : s.lc = .uninit) (hin : s.inputs = .cmd 0b01#2 :: rest)
    (hend : ∀ t, SetupOffers s.cfg s.pinCfg s.stKind s.stMsg .setupSel reqSelConfig rest t →
      SetupEnds t lc k m pin evs) : SetupEnds s lc k m pin (.cmd .setup :: evs) := by
  obtain ⟨hq, hrsp, htr, -, hcmds, hready⟩ := hw
  have hst := step_of_command ⟨hrsp, .inl htr, .inl hcmds, by simp [hq]⟩ hin
  rw [show decodeCmd 0b01#2 = .setup from rfl, exec_setup_of_uninit (by exact hq) (by exact hlc)] at hst
  refine .of_step (evs := [.cmd .setup]) hst (by simp [setupStart]) (hend _ ?_)
  exact ⟨rfl, rfl, rfl, hrsp, hready, rfl, rfl, rfl, rfl, rfl⟩

/-- Settles O56: each path is its transfers in order. -/
theorem setupCommand : Obligations.SetupCommand := by
  intro s a b c rest hw hlc hin
  cases ha : trspOk a with
  | false =>
    obtain ⟨n, t, hrun, hq, hrsp, htrace, hend⟩ :=
      setupEnds_of_waiting hw hlc hin fun t h => h.select_failed ha
    exact ⟨n, t, _, hrun, hq, hrsp, htrace, by simpa using hend⟩
  | true =>
    cases hb : trspOk b with
    | false =>
      obtain ⟨n, t, hrun, hq, hrsp, htrace, hend⟩ :=
        setupEnds_of_waiting hw hlc hin fun t h => h.selected ha fun t h => h.read_failed hb
      exact ⟨n, t, _, hrun, hq, hrsp, htrace, by simpa using hend⟩
    | true =>
      cases hm : idMatch (trspData b) with
      | false =>
        obtain ⟨n, t, hrun, hq, hrsp, htrace, hend⟩ :=
          setupEnds_of_waiting hw hlc hin fun t h => h.selected ha fun t h => h.unrecognised hb hm
        exact ⟨n, t, _, hrun, hq, hrsp, htrace, by simpa using hend⟩
      | true =>
        cases hc : trspOk c with
        | false =>
          obtain ⟨n, t, hrun, hq, hrsp, htrace, hend⟩ := setupEnds_of_waiting hw hlc hin fun t h =>
            h.selected ha fun t h => h.recognised hb hm fun t h => h.writeBack_failed hc
          exact ⟨n, t, _, hrun, hq, hrsp, htrace, by simpa using hend⟩
        | true =>
          obtain ⟨n, t, hrun, hq, hrsp, htrace, hend⟩ := setupEnds_of_waiting hw hlc hin fun t h =>
            h.selected ha fun t h => h.recognised hb hm fun t h => h.writtenBack hc
          exact ⟨n, t, _, hrun, hq, hrsp, htrace, by simpa using hend⟩

end Sys2Proof.Machine

/-! PROOFS. What no step reads: `ASLEEP` (10_state.md R23), the polarity parameter and the pin's identifier
(00_scope.md R12). Two states that differ in these alone step alike. -/

namespace Sys2Proof.Machine

variable {s s' : State}

/-- `s` with another `ASLEEP`, another polarity and another pin identifier. -/
def veil (a b : Bool) (p : Nat) (s : State) : State :=
  { s with asleep := a, cfg := { s.cfg with trueMeansBattery := b, pin := p } }

/-- `s'` is `s` but for these three; its polarity is `b`, its pin `p`, and `A` relates the two `ASLEEP`. -/
def Alike (A : Bool → Bool → Prop) (b : Bool) (p : Nat) (s s' : State) : Prop :=
  ∃ a, A s.asleep a ∧ s' = veil a b p s

/-- The same for the outcomes of a step. -/
def OutcomesAlike (A : Bool → Bool → Prop) (b : Bool) (p : Nat) :
    Host.Outcome State Fault Refusal → Host.Outcome State Fault Refusal → Prop
  | .next t, .next t' => Alike A b p t t'
  | .fault r, .fault r' => r = r'
  | .refused r, .refused r' => r = r'
  | _, _ => False

section
variable {A : Bool → Bool → Prop} {b : Bool} {p : Nat}

/-! ## Operations that leave `ASLEEP` -/

/-- The operation reads and writes none of the three. -/
structure Blind (f : State → State) : Prop where
  veil : ∀ a b p s, f (veil a b p s) = veil a b p (f s)
  asleep : ∀ s, (f s).asleep = s.asleep

theorem Blind.comp {f g : State → State} (hf : Blind f) (hg : Blind g) : Blind fun s => f (g s) :=
  ⟨fun a b p s => by rw [hg.veil, hf.veil], fun s => by rw [hf.asleep, hg.asleep]⟩

theorem Blind.alike {f : State → State} (hf : Blind f) (h : Alike A b p s s') : Alike A b p (f s) (f s') := by
  obtain ⟨a, ha, rfl⟩ := h
  exact ⟨a, by rwa [hf.asleep], hf.veil a b p s⟩

theorem blind_clearStrobes : Blind clearStrobes := ⟨fun _ _ _ _ => rfl, fun _ => rfl⟩
theorem blind_setInputs (l : List PortInput) : Blind (setInputs l) := ⟨fun _ _ _ _ => rfl, fun _ => rfl⟩
theorem blind_setHostCmds (l : List (BitVec 2)) : Blind (setHostCmds l) := ⟨fun _ _ _ _ => rfl, fun _ => rfl⟩
theorem blind_setReady (x : Bool) : Blind (setReady x) := ⟨fun _ _ _ _ => rfl, fun _ => rfl⟩
theorem blind_setDin (x : Bool) : Blind (setDin x) := ⟨fun _ _ _ _ => rfl, fun _ => rfl⟩
theorem blind_selectCsr (w : BitVec 2) : Blind (selectCsr w) := ⟨fun _ _ _ _ => rfl, fun _ => rfl⟩
theorem blind_record (e : Event) : Blind (record e) := ⟨fun _ _ _ _ => rfl, fun _ => rfl⟩
theorem blind_complete (c : Completion) : Blind (complete c) := ⟨fun _ _ _ _ => rfl, fun _ => rfl⟩
theorem blind_issue (r : Request) : Blind (issue r) := ⟨fun _ _ _ _ => rfl, fun _ => rfl⟩
theorem blind_respond (c : Completion) : Blind (respond c) := ⟨fun _ _ _ _ => rfl, fun _ => rfl⟩
theorem blind_answered (c : Answer) : Blind (answered c) := ⟨fun _ _ _ _ => rfl, fun _ => rfl⟩
theorem blind_setupStart : Blind setupStart := ⟨fun _ _ _ _ => rfl, fun _ => rfl⟩
theorem blind_setupRead : Blind setupRead := ⟨fun _ _ _ _ => rfl, fun _ => rfl⟩
theorem blind_sleepStart : Blind sleepStart := ⟨fun _ _ _ _ => rfl, fun _ => rfl⟩
theorem blind_offerAt (w : BitVec 28) (q : SeqPos) : Blind fun s => offer w { s with seq := q } :=
  ⟨fun _ _ _ _ => rfl, fun _ => rfl⟩
theorem blind_setBuf (w : Word) : Blind fun s => { s with buf := w } := ⟨fun _ _ _ _ => rfl, fun _ => rfl⟩
theorem blind_setSeq (q : SeqPos) : Blind fun s => { s with seq := q } := ⟨fun _ _ _ _ => rfl, fun _ => rfl⟩
theorem blind_fail (k : StKind) (m : StMsg) : Blind fun s => writeStatus k m { s with lc := .failed } :=
  ⟨fun _ _ _ _ => rfl, fun _ => rfl⟩
theorem blind_raise_warn (c : WarnCause) : Blind (raise (.warn c)) := ⟨fun _ _ _ _ => rfl, fun _ => rfl⟩
theorem blind_raise_protocol (c : ProtocolCause) : Blind (raise (.protocol c)) :=
  ⟨fun _ _ _ _ => rfl, fun _ => rfl⟩
theorem blind_publishVolt (w : BitVec 32) : Blind (publishVolt w) := ⟨fun _ _ _ _ => rfl, fun _ => rfl⟩
theorem blind_publishSoc (w : BitVec 32) : Blind (publishSoc w) := ⟨fun _ _ _ _ => rfl, fun _ => rfl⟩
theorem blind_samples : Blind fun s => publishLevel s.dinLevel (record (.din s.dinLevel) s) :=
  ⟨fun _ _ _ _ => rfl, fun _ => rfl⟩

/-- A choice by what none of the three is. -/
theorem Blind.ite {c : State → Prop} [DecidablePred c] {f g : State → State}
    (hc : ∀ a b p s, c (Machine.veil a b p s) ↔ c s) (hf : Blind f) (hg : Blind g) :
    Blind fun s => if c s then f s else g s := by
  refine ⟨fun a b p s => ?_, fun s => ?_⟩
  · by_cases h : c s
    · simp only [hc, h, if_true, hf.veil]
    · simp only [hc, h, if_false, hg.veil]
  · by_cases h : c s
    · simp only [h, if_true, hf.asleep]
    · simp only [h, if_false, hg.asleep]

theorem blind_id : Blind fun s => s := ⟨fun _ _ _ _ => rfl, fun _ => rfl⟩

theorem blind_clearWarning : Blind clearWarning :=
  .ite (fun _ _ _ _ => .rfl) ⟨fun _ _ _ _ => rfl, fun _ => rfl⟩ blind_id

theorem blind_endCommand (c : Completion) : Blind (endCommand c) :=
  (blind_respond c).comp (.ite (fun _ _ _ _ => .rfl) blind_id ⟨fun _ _ _ _ => rfl, fun _ => rfl⟩)

theorem blind_raise_fatal (c : FatalCause) : Blind (raise (.fatal c)) :=
  (blind_endCommand .done).comp (blind_fail c.kind c.msg)

theorem blind_updatePower : Blind updatePower :=
  .ite (fun _ _ _ _ => .rfl) (blind_setSeq .updPs) (blind_endCommand .done)

theorem blind_updateSoc : Blind updateSoc :=
  .ite (fun _ _ _ _ => .rfl) (blind_offerAt qRdSocWord .updSoc) blind_updatePower

theorem blind_updateVolt : Blind updateVolt :=
  .ite (fun _ _ _ _ => .rfl) (blind_offerAt qRdVcellWord .updV) blind_updateSoc

theorem blind_setupCheck (b0 b1 : Byte) : Blind (setupCheck b0 b1) :=
  .ite (fun _ _ _ _ => .rfl) ((blind_offerAt qWbConfigWord .setupWb).comp (blind_setBuf _))
    ((blind_raise_fatal .unrecognised).comp (blind_setBuf _))

theorem blind_powerSample : Blind powerSample := (blind_endCommand .done).comp blind_samples

theorem blind_voltSuccess (d : Word) : Blind (voltSuccess d) :=
  blind_updateSoc.comp (blind_clearWarning.comp ((blind_publishVolt _).comp (blind_setBuf d)))

theorem blind_socSuccess (d : Word) : Blind (socSuccess d) :=
  blind_updatePower.comp (blind_clearWarning.comp ((blind_publishSoc _).comp (blind_setBuf d)))

theorem blind_voltFailure : Blind voltFailure := blind_updateSoc.comp (blind_raise_warn .vcell)

theorem blind_socFailure : Blind socFailure := blind_updatePower.comp (blind_raise_warn .soc)

theorem blind_sleepFailure : Blind sleepFailure := (blind_endCommand .done).comp (blind_raise_warn .sleepWrite)

/-! ## Answers and commands -/

theorem Alike.seq (h : Alike A b p s s') : s'.seq = s.seq := by
  obtain ⟨a, -, rfl⟩ := h
  rfl

theorem Alike.lc (h : Alike A b p s s') : s'.lc = s.lc := by
  obtain ⟨a, -, rfl⟩ := h
  rfl

theorem Alike.outstanding (h : Alike A b p s s') : s'.outstanding = s.outstanding := by
  obtain ⟨a, -, rfl⟩ := h
  rfl

theorem Alike.hostCmds (h : Alike A b p s s') : s'.hostCmds = s.hostCmds := by
  obtain ⟨a, -, rfl⟩ := h
  rfl

theorem resumeErr_alike (h : Alike A b p s s') : Alike A b p (resumeErr s) (resumeErr s') := by
  have hseq := h.seq
  cases hq : s.seq with
  | idle =>
    rwa [resumeErr_of_no_request (.inl hq), resumeErr_of_no_request (.inl (hseq.trans hq))]
  | updPs =>
    rwa [resumeErr_of_no_request (.inr hq), resumeErr_of_no_request (.inr (hseq.trans hq))]
  | setupSel =>
    rw [resumeErr_of_setupSel hq, resumeErr_of_setupSel (hseq.trans hq)]
    exact (blind_raise_fatal _).alike h
  | setupRd =>
    rw [resumeErr_of_setupRd hq, resumeErr_of_setupRd (hseq.trans hq)]
    exact (blind_raise_fatal _).alike h
  | setupWb =>
    rw [resumeErr_of_setupWb hq, resumeErr_of_setupWb (hseq.trans hq)]
    exact (blind_raise_fatal _).alike h
  | updV =>
    rw [resumeErr_of_updV hq, resumeErr_of_updV (hseq.trans hq)]
    exact blind_voltFailure.alike h
  | updSoc =>
    rw [resumeErr_of_updSoc hq, resumeErr_of_updSoc (hseq.trans hq)]
    exact blind_socFailure.alike h
  | slpWr =>
    rw [resumeErr_of_slpWr hq, resumeErr_of_slpWr (hseq.trans hq)]
    exact blind_sleepFailure.alike h

/-- Two ways to write `ASLEEP`, alike in both states. -/
theorem setAsleep_alike (hA : ∀ a, A a a) (a : Bool) (h : Alike A b p s s') :
    Alike A b p { s with asleep := a } { s' with asleep := a } := by
  obtain ⟨_, -, rfl⟩ := h
  exact ⟨a, hA a, rfl⟩

theorem blind_makeReady : Blind fun s => { configurePin s with lc := .ready } :=
  ⟨fun _ _ _ _ => rfl, fun _ => rfl⟩

theorem setupFinish_alike (hA : ∀ a, A a a) (h : Alike A b p s s') :
    Alike A b p (setupFinish s) (setupFinish s') :=
  (blind_endCommand .done).alike (setAsleep_alike hA false (blind_makeReady.alike h))

theorem sleepSuccess_alike (hA : ∀ a, A a a) (h : Alike A b p s s') :
    Alike A b p (sleepSuccess s) (sleepSuccess s') :=
  (blind_endCommand .done).alike (setAsleep_alike hA true h)

theorem applyReset_alike (hA : ∀ a, A a a) (h : Alike A b p s s') :
    Alike A b p (applyReset s) (applyReset s') := by
  obtain ⟨a, -, rfl⟩ := h
  exact ⟨false, hA false, rfl⟩

theorem resumeOk_alike (hA : ∀ a, A a a) (d : Word) (h : Alike A b p s s') :
    Alike A b p (resumeOk d s) (resumeOk d s') := by
  have hseq := h.seq
  cases hq : s.seq with
  | idle =>
    rwa [resumeOk_of_no_request (.inl hq), resumeOk_of_no_request (.inl (hseq.trans hq))]
  | updPs =>
    rwa [resumeOk_of_no_request (.inr hq), resumeOk_of_no_request (.inr (hseq.trans hq))]
  | setupSel =>
    rw [resumeOk_of_setupSel hq, resumeOk_of_setupSel (hseq.trans hq)]
    exact blind_setupRead.alike h
  | setupRd =>
    rw [resumeOk_of_setupRd hq, resumeOk_of_setupRd (hseq.trans hq)]
    exact (blind_setupCheck _ _).alike h
  | setupWb =>
    rw [resumeOk_of_setupWb hq, resumeOk_of_setupWb (hseq.trans hq)]
    exact setupFinish_alike hA h
  | updV =>
    rw [resumeOk_of_updV hq, resumeOk_of_updV (hseq.trans hq)]
    exact (blind_voltSuccess d).alike h
  | updSoc =>
    rw [resumeOk_of_updSoc hq, resumeOk_of_updSoc (hseq.trans hq)]
    exact (blind_socSuccess d).alike h
  | slpWr =>
    rw [resumeOk_of_slpWr hq, resumeOk_of_slpWr (hseq.trans hq)]
    exact sleepSuccess_alike hA h

theorem takeAnswer_alike (carried : Request → Answer) {resume : State → State}
    (hres : ∀ {u u'}, Alike A b p u u' → Alike A b p (resume u) (resume u')) (h : Alike A b p s s') :
    Alike A b p (takeAnswer carried resume s) (takeAnswer carried resume s') := by
  cases ho : s.outstanding with
  | none =>
    rwa [takeAnswer_of_none s _ _ ho, takeAnswer_of_none s' _ _ (h.outstanding.trans ho)]
  | some r =>
    rw [takeAnswer_of_some s _ _ ho, takeAnswer_of_some s' _ _ (h.outstanding.trans ho)]
    exact hres ((blind_answered (carried r)).alike h)

theorem atCommandPort_alike (w : BitVec 2) {accept : State → State}
    (hacc : ∀ {u u'}, Alike A b p u u' → Alike A b p (accept u) (accept u')) (h : Alike A b p s s') :
    Alike A b p (atCommandPort w accept s) (atCommandPort w accept s') := by
  by_cases hq : s.seq = .idle
  · rw [atCommandPort_of_idle s _ _ hq, atCommandPort_of_idle s' _ _ (h.seq.trans hq)]
    exact hacc h
  · rw [atCommandPort_of_busy s _ _ hq, atCommandPort_of_busy s' _ _ (by rwa [h.seq]), h.hostCmds]
    exact (blind_setHostCmds _).alike h

theorem acceptSetup_alike (h : Alike A b p s s') : Alike A b p (acceptSetup s) (acceptSetup s') := by
  by_cases hlc : s.lc = .uninit
  · rw [acceptSetup_of_uninit s hlc, acceptSetup_of_uninit s' (h.lc.trans hlc)]
    exact blind_setupStart.alike h
  · rw [acceptSetup_of_not_uninit s hlc, acceptSetup_of_not_uninit s' (by rwa [h.lc])]
    exact (blind_raise_protocol _).alike h

theorem acceptUpdate_alike (h : Alike A b p s s') : Alike A b p (acceptUpdate s) (acceptUpdate s') := by
  unfold acceptUpdate
  rw [h.lc]
  split
  next => exact (blind_raise_protocol _).alike h
  next => exact (blind_raise_protocol _).alike h
  next => exact blind_updateVolt.alike h
  next => exact (blind_respond _).alike h

theorem acceptSleep_alike (h : Alike A b p s s') : Alike A b p (acceptSleep s) (acceptSleep s') := by
  unfold acceptSleep
  rw [h.lc]
  split
  next => exact (blind_raise_protocol _).alike h
  next => exact (blind_raise_protocol _).alike h
  next => exact blind_sleepStart.alike h
  next => exact (blind_respond _).alike h

/-- Every instruction runs alike. -/
theorem exec_alike (hA : ∀ a, A a a) (i : Instr) (h : Alike A b p s s') :
    OutcomesAlike A b p (exec i s) (exec i s') := by
  cases i with
  | setup => exact atCommandPort_alike _ (fun h => acceptSetup_alike ((blind_record _).alike h)) h
  | update => exact atCommandPort_alike _ (fun h => acceptUpdate_alike ((blind_record _).alike h)) h
  | sleep => exact atCommandPort_alike _ (fun h => acceptSleep_alike ((blind_record _).alike h)) h
  | reservedCmd => exact atCommandPort_alike _ (blind_raise_protocol _).alike h
  | done | illegalOp | illegalState => exact (blind_complete _).alike h
  | tWrite len addr wdata | tRead len addr wdata | tRead16 len addr wdata | tWrite16 len addr wdata =>
    exact (blind_issue _).alike h
  | qSelConfig | qRd2 | qWbConfig | qRdVcell | qRdSoc | qSleep => exact (blind_issue _).alike h
  | tOk rdata => exact takeAnswer_alike _ (resumeOk_alike hA rdata) h
  | tErr rdata => exact takeAnswer_alike _ resumeErr_alike h
  | csrDevaddr | csrState | csrStatus | csrSinks => exact (blind_selectCsr _).alike h

/-! ## The step -/

theorem runWord_alike (hA : ∀ a, A a a) (f : Format) (w : Nat) (h : Alike A b p s s') :
    OutcomesAlike A b p (runWord f w s) (runWord f w s') := by
  unfold runWord
  split
  · exact exec_alike hA _ h
  · rfl

/-- Actions that run to alike outcomes. -/
def ActionsAlike (A : Bool → Bool → Prop) (b : Bool) (p : Nat) (x x' : Action) : Prop :=
  OutcomesAlike A b p (runAction x) (runAction x')

theorem nextInput_alike (hA : ∀ a, A a a) (h : Alike A b p s s') :
    ActionsAlike A b p (nextInput s) (nextInput s') := by
  have hin : s'.inputs = s.inputs := by obtain ⟨a, -, rfl⟩ := h; rfl
  have htr : s'.tReq = s.tReq := by obtain ⟨a, -, rfl⟩ := h; rfl
  unfold nextInput
  rw [hin, htr, h.outstanding]
  split
  next => exact runWord_alike hA _ _ ((blind_setInputs _).alike h)
  next => exact runWord_alike hA _ _ ((blind_setInputs _).alike h)
  next => exact runWord_alike hA _ _ ((blind_setInputs _).alike h)
  next => exact (blind_setReady _).alike ((blind_setInputs _).alike h)
  next => exact (blind_setDin _).alike ((blind_setInputs _).alike h)
  next => exact applyReset_alike hA ((blind_setInputs _).alike h)
  next =>
    split
    · rfl
    split
    · rfl
    · exact h

theorem nextSample_alike (hA : ∀ a, A a a) (h : Alike A b p s s') :
    ActionsAlike A b p (nextSample s) (nextSample s') := by
  unfold nextSample nextCommand
  rw [h.seq, h.hostCmds]
  split
  · exact blind_powerSample.alike h
  split
  · split
    · exact runWord_alike hA _ _ ((blind_setHostCmds _).alike h)
    · exact nextInput_alike hA h
  · exact nextInput_alike hA h

theorem nextTransfer_alike (hA : ∀ a, A a a) (h : Alike A b p s s') :
    ActionsAlike A b p (nextTransfer s) (nextTransfer s') := by
  have hrsp : s'.rsp = s.rsp := by obtain ⟨a, -, rfl⟩ := h; rfl
  have htr : s'.tReq = s.tReq := by obtain ⟨a, -, rfl⟩ := h; rfl
  have hready : s'.tReady = s.tReady := by obtain ⟨a, -, rfl⟩ := h; rfl
  unfold nextTransfer nextRequest
  rw [hrsp, htr, hready]
  split
  · exact runWord_alike hA _ _ h
  split
  · split
    · exact runWord_alike hA _ _ h
    · exact nextSample_alike hA h
  · exact nextSample_alike hA h

/-- Alike states step alike. -/
theorem step_alike (hA : ∀ a, A a a) (h : Alike A b p s s') : OutcomesAlike A b p (step s) (step s') := by
  have hcl := blind_clearStrobes.alike h
  have hin : (clearStrobes s').inputs = (clearStrobes s).inputs := by obtain ⟨a, -, rfl⟩ := h; rfl
  unfold step nextAction
  rw [hin]
  split
  · exact applyReset_alike hA ((blind_setInputs _).alike hcl)
  · exact nextTransfer_alike hA hcl

/-- Alike outcomes are alike next states, or one stop. -/
theorem outcomesAlike_cases {o o' : Host.Outcome State Fault Refusal} (h : OutcomesAlike A b p o o') :
    (∃ t t', o = .next t ∧ o' = .next t' ∧ Alike A b p t t') ∨ (o' = o ∧ ∀ f, mapNext f o = o) := by
  cases o <;> cases o' <;> simp_all [OutcomesAlike, mapNext]

end

/-! ## The two rules -/

/-- Settles O54: the states differ in `ASLEEP` alone, and so do their outcomes, since no step writes the
parameters. -/
theorem asleepGatesNothing : Obligations.AsleepGatesNothing := by
  intro s b
  have h : Alike (fun _ _ => True) s.cfg.trueMeansBattery s.cfg.pin s { s with asleep := b } :=
    ⟨b, trivial, rfl⟩
  rcases outcomesAlike_cases (step_alike (fun _ => trivial) h) with ⟨t, t', ht, ht', a, -, rfl⟩ | ⟨heq, -⟩
  · rw [ht, ht', ← step_cfg ht]
    rfl
  · rw [heq]

/-- Settles O55: the states have the same `ASLEEP`, and so do their outcomes. -/
theorem polarityChangesNoStep : Obligations.PolarityChangesNoStep := by
  intro s b p
  have h : Alike Eq b p s { s with cfg := { s.cfg with trueMeansBattery := b, pin := p } } := ⟨_, rfl, rfl⟩
  rcases outcomesAlike_cases (step_alike (fun _ => rfl) h) with ⟨t, t', ht, ht', a, rfl, rfl⟩ | ⟨heq, hstop⟩
  · rw [ht, ht']
    rfl
  · rw [heq, hstop]

end Sys2Proof.Machine

/-! PROOFS. Rounding to binary32 (00_scope.md R15; 30_encoding.md R89): `rne32` is the nearest word, ties to even,
and what the block publishes is zero or normal (41_update.md R134, R135). -/

namespace Sys2Proof.Machine

/-! ## Rounding a quotient to an integer -/

/-- `roundDiv` is the quotient or the next integer, whichever is nearer; at equal distance, the even one. -/
theorem roundDiv_cases (a b : Nat) :
    (roundDiv a b = a / b ∧ (2 * (a % b) < b ∨ 2 * (a % b) = b ∧ roundDiv a b % 2 = 0)) ∨
      (roundDiv a b = a / b + 1 ∧ (b < 2 * (a % b) ∨ 2 * (a % b) = b ∧ roundDiv a b % 2 = 0)) := by
  unfold roundDiv
  split
  next h => exact .inl ⟨rfl, h⟩
  next h => exact .inr ⟨rfl, by omega⟩

/-- How far the multiples of `b` are from one another. -/
theorem mul_gap {b n q : ℤ} (hb : 0 < b) : (n < q → n * b + b ≤ q * b) ∧ (n = q → n * b = q * b) ∧
    (n = q + 1 → n * b = q * b + b) ∧ (q + 1 < n → q * b + 2 * b ≤ n * b) :=
  ⟨fun h => by nlinarith, fun h => by rw [h], fun h => by rw [h]; ring, fun h => by nlinarith⟩

/-- No integer multiple of `b` is nearer to `a` than the rounded one, and where another is as near, the rounded
quotient is even. -/
theorem roundDiv_nearest (a : Nat) {b : Nat} (hb : 0 < b) (n : ℤ) :
    |(roundDiv a b : ℤ) * b - a| ≤ |n * b - a| ∧
      (|(roundDiv a b : ℤ) * b - a| = |n * b - a| → n ≠ roundDiv a b → roundDiv a b % 2 = 0) := by
  have hdiv : ((a / b : Nat) : ℤ) * b + (a % b : Nat) = a := by exact_mod_cast Nat.div_add_mod' a b
  have hmod : a % b < b := Nat.mod_lt a hb
  obtain ⟨far, same, next, farther⟩ := mul_gap (n := n) (q := (a / b : Nat)) (Int.natCast_pos.2 hb)
  rcases roundDiv_cases a b with ⟨hr, hnear⟩ | ⟨hr, hnear⟩
  · have hdist : |(roundDiv a b : ℤ) * b - a| = (a % b : Nat) := by
      rw [hr, abs_of_nonpos] <;> omega
    rw [hdist]
    rcases abs_cases (n * (b : ℤ) - a) with ⟨habs, _⟩ | ⟨habs, _⟩ <;> omega
  · have hdist : |(roundDiv a b : ℤ) * b - a| = b - (a % b : Nat) := by
      rw [hr, Nat.cast_add_one, add_one_mul, abs_of_nonneg] <;> omega
    rw [hdist]
    rcases abs_cases (n * (b : ℤ) - a) with ⟨habs, _⟩ | ⟨habs, _⟩ <;> omega

/-! ## A binary32 word as a number of units of `2^-149` (R89) -/

/-- The significand, with its hidden bit (R89). -/
def f32Sig (w : BitVec 32) : Nat := if f32Exp w = 0 then f32Frac w else 2 ^ 23 + f32Frac w

/-- The power of two that the significand counts, in units of `2^-149`. -/
def f32Shift (w : BitVec 32) : Nat := f32Exp w - 1

/-- The word's value in units of `2^-149`. -/
def f32Units (w : BitVec 32) : ℤ := (if w.getLsbD 31 then -1 else 1) * (f32Sig w * 2 ^ f32Shift w : Nat)

theorem f32Value_eq (w : BitVec 32) : f32Value w = (f32Units w : Rat) / 2 ^ 149 := by
  have hmag : (if f32Exp w = 0 then 2 * f32Frac w else (2 ^ 23 + f32Frac w) * 2 ^ f32Exp w) =
      2 * (f32Sig w * 2 ^ f32Shift w) := by
    unfold f32Sig f32Shift
    split
    next h => simp [h]
    next h =>
      obtain ⟨n, hn⟩ := Nat.exists_eq_succ_of_ne_zero h
      rw [hn, Nat.succ_eq_add_one, Nat.add_sub_cancel]
      ring
  rw [f32Value, hmag, f32Units]
  push_cast
  ring

theorem f32Frac_lt (w : BitVec 32) : f32Frac w < 2 ^ 23 := (w.extractLsb' 0 23).isLt

theorem f32Sig_lt (w : BitVec 32) : f32Sig w < 2 ^ 24 := by
  have := f32Frac_lt w
  unfold f32Sig
  split <;> omega

theorem f32Units_natAbs (w : BitVec 32) : (f32Units w).natAbs = f32Sig w * 2 ^ f32Shift w := by
  rw [f32Units, Int.natAbs_mul, Int.natAbs_natCast]
  split <;> simp

/-- A word of at least `2^(e+23)` units is a multiple of `2^e`: a significand has 24 bits. -/
theorem pow_dvd_f32Units {w : BitVec 32} {e : Nat} (h : (2 ^ (e + 23) : ℤ) ≤ f32Units w) :
    (2 ^ e : ℤ) ∣ f32Units w := by
  have hle : 2 ^ (e + 23) ≤ f32Sig w * 2 ^ f32Shift w := by
    have habs := h.trans Int.le_natAbs
    rw [f32Units_natAbs] at habs
    exact_mod_cast habs
  have hlt : 2 ^ (e + 23) < 2 ^ (24 + f32Shift w) :=
    calc 2 ^ (e + 23) ≤ f32Sig w * 2 ^ f32Shift w := hle
      _ < 2 ^ 24 * 2 ^ f32Shift w := Nat.mul_lt_mul_of_pos_right (f32Sig_lt w) (by positivity)
      _ = 2 ^ (24 + f32Shift w) := (pow_add 2 24 _).symm
  have hshift : e ≤ f32Shift w := by
    have := (Nat.pow_lt_pow_iff_right (by norm_num : 1 < 2)).1 hlt
    omega
  have hdvd : 2 ^ e ∣ (f32Units w).natAbs := by
    rw [f32Units_natAbs]
    exact (pow_dvd_pow 2 hshift).mul_left _
  exact_mod_cast Int.natCast_dvd.2 hdvd

/-! ### A word from its significand and shift -/

/-- The word whose value is `sig * 2^e` units. -/
def f32OfUnits (e sig : Nat) : BitVec 32 := BitVec.ofNat 32 (e * 2 ^ 23 + sig)

/-- The significand and the shift fit a finite word that is not negative. -/
structure F32Fits (e sig : Nat) : Prop where
  sig_le : sig ≤ 2 ^ 24
  normal : 0 < e → 2 ^ 23 ≤ sig
  shift_le : e ≤ 133

section
variable {e sig : Nat}

theorem f32OfUnits_toNat (h : F32Fits e sig) : (f32OfUnits e sig).toNat = e * 2 ^ 23 + sig := by
  obtain ⟨hsig, -, he⟩ := h
  rw [f32OfUnits, BitVec.toNat_ofNat, Nat.mod_eq_of_lt]
  omega

theorem f32Exp_eq (w : BitVec 32) : f32Exp w = w.toNat / 2 ^ 23 % 256 := by
  rw [f32Exp, BitVec.extractLsb'_toNat, Nat.shiftRight_eq_div_pow]

theorem f32Frac_eq (w : BitVec 32) : f32Frac w = w.toNat % 2 ^ 23 := by
  rw [f32Frac, BitVec.extractLsb'_toNat, Nat.shiftRight_eq_div_pow, pow_zero, Nat.div_one]

theorem f32OfUnits_not_neg (h : F32Fits e sig) : (f32OfUnits e sig).getLsbD 31 = false := by
  rw [BitVec.getLsbD, f32OfUnits_toNat h]
  obtain ⟨hsig, -, he⟩ := h
  exact Nat.testBit_lt_two_pow (by omega)

/-- The last bit is the significand's. -/
theorem f32OfUnits_even (h : F32Fits e sig) (heven : sig % 2 = 0) :
    (f32OfUnits e sig).getLsbD 0 = false := by
  rw [BitVec.getLsbD, f32OfUnits_toNat h, Nat.testBit_zero]
  simp only [decide_eq_false_iff_not]
  omega

theorem f32Exp_f32OfUnits (h : F32Fits e sig) :
    f32Exp (f32OfUnits e sig) = e + sig / 2 ^ 23 := by
  rw [f32Exp_eq, f32OfUnits_toNat h]
  obtain ⟨hsig, -, he⟩ := h
  omega

/-- Its value is what it was made from: below `2^23` the word is subnormal, from there normal, and at `2^24`
the significand is the next exponent's first. -/
theorem f32Units_f32OfUnits (h : F32Fits e sig) : f32Units (f32OfUnits e sig) = (sig * 2 ^ e : Nat) := by
  have hexp := f32Exp_f32OfUnits h
  have hfrac : f32Frac (f32OfUnits e sig) = sig % 2 ^ 23 := by
    rw [f32Frac_eq, f32OfUnits_toNat h]
    omega
  rw [f32Units, f32OfUnits_not_neg h, if_neg nofun, one_mul, f32Sig, f32Shift, hexp, hfrac]
  obtain ⟨hsig, hnormal, -⟩ := h
  rcases Nat.lt_or_ge sig (2 ^ 23) with hlt | hge
  · obtain rfl : e = 0 := by omega
    rw [Nat.div_eq_of_lt hlt, Nat.mod_eq_of_lt hlt, if_pos rfl]
  · rcases Nat.lt_or_eq_of_le hsig with hlt | rfl
    · have hdiv : sig / 2 ^ 23 = 1 := by omega
      rw [hdiv, if_neg (by omega), Nat.add_sub_cancel, show 2 ^ 23 + sig % 2 ^ 23 = sig by omega]
    · rw [show 2 ^ 24 / 2 ^ 23 = 2 by norm_num, show 2 ^ 24 % 2 ^ 23 = 0 by norm_num, if_neg (by omega),
        show e + 2 - 1 = e + 1 by omega]
      push_cast
      ring

end

/-! ## `rne32` -/

/-- The rational's numerator in units of `2^-149`. -/
def rneScaled (q : ExactQ) : Nat := q.num * 2 ^ 149

/-- How many bits of the integer part a 24-bit significand drops. -/
def rneShift (q : ExactQ) : Nat := max (Nat.log2 (rneScaled q / q.den)) 23 - 23

/-- The rounded significand. -/
def rneSig (q : ExactQ) : Nat := roundDiv (rneScaled q) (q.den * 2 ^ rneShift q)

theorem rne32_eq (q : ExactQ) : rne32 q = f32OfUnits (rneShift q) (rneSig q) := rfl

section
variable {q : ExactQ}

/-- The integer part has at most 24 bits more than are dropped. -/
theorem rneScaled_div_lt (q : ExactQ) : rneScaled q / q.den < 2 ^ (rneShift q + 24) :=
  calc rneScaled q / q.den < 2 ^ (Nat.log2 (rneScaled q / q.den) + 1) := Nat.lt_log2_self
    _ ≤ 2 ^ (rneShift q + 24) := Nat.pow_le_pow_right (by norm_num) (by unfold rneShift; omega)

/-- Where bits are dropped, the integer part has exactly so many. -/
theorem le_rneScaled_div (h : 0 < rneShift q) : 2 ^ (rneShift q + 23) ≤ rneScaled q / q.den := by
  have hlog : rneShift q + 23 = Nat.log2 (rneScaled q / q.den) := by
    unfold rneShift at h ⊢
    omega
  rw [hlog]
  refine Nat.log2_self_le fun h0 => ?_
  simp [h0] at hlog

theorem div_le_roundDiv (a b : Nat) : a / b ≤ roundDiv a b := by
  rcases roundDiv_cases a b with ⟨h, -⟩ | ⟨h, -⟩ <;> omega

theorem roundDiv_le (a b : Nat) : roundDiv a b ≤ a / b + 1 := by
  rcases roundDiv_cases a b with ⟨h, -⟩ | ⟨h, -⟩ <;> omega

theorem le_rneSig {n : Nat} (h : n * 2 ^ rneShift q ≤ rneScaled q / q.den) : n ≤ rneSig q := by
  refine le_trans ?_ (div_le_roundDiv _ _)
  rw [← Nat.div_div_eq_div_mul]
  exact (Nat.le_div_iff_mul_le (by positivity)).2 h

theorem rneSig_le (q : ExactQ) : rneSig q ≤ 2 ^ 24 := by
  refine le_trans (roundDiv_le _ _) ?_
  rw [← Nat.div_div_eq_div_mul]
  refine Nat.div_lt_of_lt_mul ?_
  rw [← pow_add]
  exact rneScaled_div_lt q

/-- Below 256 the word is far from the largest exponent. -/
theorem rneShift_le (hlt : q.num < 256 * q.den) : rneShift q ≤ 133 := by
  have hdiv : rneScaled q / q.den < 2 ^ 157 := by
    refine Nat.div_lt_of_lt_mul ?_
    unfold rneScaled
    omega
  by_contra h
  have hle := (Nat.pow_le_pow_right (by norm_num : 0 < 2) (by omega : 157 ≤ rneShift q + 23)).trans
    (le_rneScaled_div (by omega))
  omega

theorem rne_fits (hlt : q.num < 256 * q.den) : F32Fits (rneShift q) (rneSig q) where
  sig_le := rneSig_le q
  normal h := le_rneSig (by rw [← pow_add, add_comm]; exact le_rneScaled_div h)
  shift_le := rneShift_le hlt

/-- The distance to the rational, in units of `2^-149` of its denominator. -/
theorem abs_f32Value_sub (hden : 0 < q.den) (w : BitVec 32) :
    |f32Value w - q.val| = ((|f32Units w * q.den - rneScaled q| : ℤ) : Rat) / (2 ^ 149 * q.den) := by
  have hd : (0 : Rat) < q.den := Nat.cast_pos.2 hden
  have hsub : f32Value w - q.val =
      ((f32Units w * q.den - rneScaled q : ℤ) : Rat) / (2 ^ 149 * q.den) := by
    rw [f32Value_eq, ExactQ.val, rneScaled]
    push_cast
    field_simp
    ring
  rw [hsub, abs_div, abs_of_pos (by positivity : (0 : Rat) < 2 ^ 149 * q.den), Int.cast_abs]

/-- Of the words that are multiples of `2^e`, rounding at `e` gives the nearest. -/
theorem rneSig_nearest (hden : 0 < q.den) (n : ℤ) :
    |((rneSig q * 2 ^ rneShift q : Nat) : ℤ) * q.den - rneScaled q| ≤
        |n * 2 ^ rneShift q * q.den - rneScaled q| ∧
      (|((rneSig q * 2 ^ rneShift q : Nat) : ℤ) * q.den - rneScaled q| =
          |n * 2 ^ rneShift q * q.den - rneScaled q| → n ≠ rneSig q → rneSig q % 2 = 0) := by
  have hpos : 0 < q.den * 2 ^ rneShift q := by positivity
  have h := roundDiv_nearest (rneScaled q) hpos n
  have hcomm (z : ℤ) : z * ((q.den * 2 ^ rneShift q : Nat) : ℤ) = z * 2 ^ rneShift q * q.den := by
    push_cast
    ring
  rw [hcomm, hcomm] at h
  push_cast
  exact h

/-- The value of the rounded word, in units of `2^-149`. -/
def rneUnits (q : ExactQ) : Nat := rneSig q * 2 ^ rneShift q

/-- A word below the least normal one at the rounding's exponent is farther than that one. -/
theorem rneUnits_nearer_of_lt (hden : 0 < q.den) (he : 0 < rneShift q) {z : ℤ}
    (hz : z < 2 ^ (rneShift q + 23)) :
    |(rneUnits q : ℤ) * q.den - rneScaled q| < |z * q.den - rneScaled q| := by
  have hd : (0 : ℤ) < q.den := Int.natCast_pos.2 hden
  have hleast : (2 ^ (rneShift q + 23) * q.den : ℤ) ≤ rneScaled q := by
    exact_mod_cast (Nat.le_div_iff_mul_le hden).1 (le_rneScaled_div he)
  have hzlt : z * q.den < 2 ^ (rneShift q + 23) * q.den := mul_lt_mul_of_pos_right hz hd
  calc |(rneUnits q : ℤ) * q.den - rneScaled q|
    _ ≤ |(2 : ℤ) ^ 23 * 2 ^ rneShift q * q.den - rneScaled q| := (rneSig_nearest hden (2 ^ 23)).1
    _ = rneScaled q - 2 ^ (rneShift q + 23) * q.den := by
      rw [← pow_add, add_comm 23, abs_of_nonpos (by linarith)]
      ring
    _ < rneScaled q - z * q.den := by linarith
    _ = |z * q.den - rneScaled q| := by
      rw [abs_of_nonpos (by linarith)]
      ring

/-- No word is nearer, and where another is as near, the rounded significand is even: a word is a multiple of
the rounding's unit, or below it. -/
theorem rneUnits_nearest (hden : 0 < q.den) (w : BitVec 32) :
    |(rneUnits q : ℤ) * q.den - rneScaled q| ≤ |f32Units w * q.den - rneScaled q| ∧
      (|(rneUnits q : ℤ) * q.den - rneScaled q| = |f32Units w * q.den - rneScaled q| →
        f32Units w ≠ rneUnits q → rneSig q % 2 = 0) := by
  by_cases hdvd : (2 ^ rneShift q : ℤ) ∣ f32Units w
  · obtain ⟨n, hn⟩ := hdvd
    rw [mul_comm] at hn
    obtain ⟨hle, htie⟩ := rneSig_nearest hden n
    rw [hn]
    refine ⟨hle, fun heq hne => htie heq fun hsig => hne ?_⟩
    rw [hsig, rneUnits]
    push_cast
    rfl
  · have he : 0 < rneShift q := by
      refine Nat.pos_of_ne_zero fun h0 => hdvd ?_
      rw [h0, pow_zero]
      exact one_dvd _
    have hlt := rneUnits_nearer_of_lt hden he (lt_of_not_ge (mt pow_dvd_f32Units hdvd))
    exact ⟨hlt.le, fun heq => absurd heq hlt.ne⟩

end

/-- Settles O46: the word's units are the rounded significand at its shift, and distances to the rational are
those of units. -/
theorem roundingIsNearestTiesToEven : Obligations.RoundingIsNearestTiesToEven := by
  intro q hden hlt
  have hfits := rne_fits hlt
  have hunits : f32Units (rne32 q) = rneUnits q := f32Units_f32OfUnits hfits
  refine ⟨?_, f32OfUnits_not_neg hfits, fun w _ => ?_⟩
  · rw [f32Finite, rne32_eq, f32Exp_f32OfUnits hfits]
    obtain ⟨hsig, -, he⟩ := hfits
    omega
  · have hscale : (0 : Rat) < 2 ^ 149 * q.den := mul_pos (by norm_num) (Nat.cast_pos.2 hden)
    obtain ⟨hle, htie⟩ := rneUnits_nearest hden w
    rw [abs_f32Value_sub hden, abs_f32Value_sub hden, hunits, div_le_div_iff_of_pos_right hscale,
      div_left_inj' hscale.ne', Int.cast_le, Int.cast_inj]
    refine ⟨hle, fun heq hne => f32OfUnits_even hfits (htie heq fun h => hne ?_)⟩
    rw [f32Value_eq, f32Value_eq, hunits, h]

/-! ## What the block publishes (R89, R135) -/

/-- `rne32` of zero is `+0`. -/
theorem rne32_of_zero {q : ExactQ} (h : q.num = 0) : rne32 q = 0#32 := by
  have hscaled : rneScaled q = 0 := by rw [rneScaled, h, Nat.zero_mul]
  have hshift : rneShift q = 0 := by rw [rneShift, hscaled, Nat.zero_div]; rfl
  have hsig : rneSig q = 0 := by
    rw [rneSig, hscaled, roundDiv, Nat.zero_div, Nat.zero_mod, if_pos (by omega)]
  rw [rne32_eq, hshift, hsig]
  rfl

/-- A rational of at least `2^-126` gives a normal word. -/
theorem f32Exp_rne32_bounds {q : ExactQ} (hden : 0 < q.den) (hlt : q.num < 256 * q.den)
    (hsmall : q.den ≤ q.num * 2 ^ 126) : 1 ≤ f32Exp (rne32 q) ∧ f32Exp (rne32 q) ≤ 254 := by
  have hfits := rne_fits hlt
  have hsig : 2 ^ 23 ≤ rneSig q := by
    rcases Nat.eq_zero_or_pos (rneShift q) with h0 | hpos
    · refine le_rneSig ?_
      rw [h0, pow_zero, mul_one, Nat.le_div_iff_mul_le hden, rneScaled]
      omega
    · exact hfits.normal hpos
  rw [rne32_eq, f32Exp_f32OfUnits hfits]
  obtain ⟨hle, -, he⟩ := hfits
  omega

/-- A published rational is zero and gives `+0`, or gives a normal word that is not negative. -/
theorem rne32_zero_or_normal {q : ExactQ} (hden : 0 < q.den) (hlt : q.num < 256 * q.den)
    (hsmall : q.den ≤ 2 ^ 126) : (rne32 q = 0#32 ↔ q.val = 0) ∧
      (rne32 q ≠ 0#32 → 1 ≤ f32Exp (rne32 q) ∧ f32Exp (rne32 q) ≤ 254) ∧
      (rne32 q).getLsbD 31 = false := by
  have hval : q.val = 0 ↔ q.num = 0 := by simp [ExactQ.val, hden.ne']
  have hnormal : q.num ≠ 0 → 1 ≤ f32Exp (rne32 q) ∧ f32Exp (rne32 q) ≤ 254 := fun h =>
    f32Exp_rne32_bounds hden hlt (hsmall.trans (Nat.le_mul_of_pos_left _ (Nat.pos_of_ne_zero h)))
  refine ⟨?_, fun hne => hnormal fun h => hne (rne32_of_zero h), f32OfUnits_not_neg (rne_fits hlt)⟩
  rw [hval]
  refine ⟨fun h0 => ?_, rne32_of_zero⟩
  by_contra h
  have hexp := (hnormal h).1
  rw [h0] at hexp
  exact absurd hexp (by decide)

theorem vdec_num_lt (raw : Word) : (vdec raw).num < 256 * (vdec raw).den := by
  have := (raw.extractLsb' 4 12).isLt
  rw [vdec_eq]
  dsimp only
  omega

theorem socdec_num_lt (raw : Word) : (socdec raw).num < 256 * (socdec raw).den := by
  have := (hiByte raw).isLt
  have := (loByte raw).isLt
  rw [socdec]
  dsimp only
  omega

/-- Settles O47: both decodes are below 256, with denominators far below `2^126`. -/
theorem publishedWordsAreZeroOrNormal : Obligations.PublishedWordsAreZeroOrNormal := by
  intro raw
  obtain ⟨hvzero, hvnormal, hvsign⟩ :=
    rne32_zero_or_normal (q := vdec raw) (by norm_num [vdec]) (vdec_num_lt raw) (by norm_num [vdec])
  obtain ⟨hszero, hsnormal, hssign⟩ :=
    rne32_zero_or_normal (q := socdec raw) (by norm_num [socdec]) (socdec_num_lt raw) (by norm_num [socdec])
  exact ⟨hvzero, hszero, hvnormal, hsnormal, hvsign, hssign⟩

end Sys2Proof.Machine
